-- ==== Sys2Proof/Word.lean ====
section
/-! DEFINITION. The words of the DB-24: host registers are 32 bits wide, parcels carry bytes. -/

namespace Sys2Proof

/-- One host register word (R164). -/
abbrev Word := BitVec 32

/-- One payload byte of a parcel (R7). -/
abbrev Byte := BitVec 8

end Sys2Proof
end

