-- ==== Sys2Proof/Config.lean ====
section
/-! DEFINITION. What the part fixes: sizes, line intervals and codes that several rules share. -/

namespace Sys2Proof.Config

/-- Call slots (R46, R47). -/
abbrev slotCount : Nat := 24
/-- Deepest Session Stack (R70). -/
abbrev stackLimit : Nat := 6
/-- Records of the shared inbox pool (R101). -/
abbrev poolSize : Nat := 40
/-- Entries of the Notice Board (R106). -/
abbrev boardSize : Nat := 64
/-- Header bits of a parcel, class through length (R7). -/
abbrev headerBits : Nat := 26
/-- Bits of the arbitration field (R9). -/
abbrev arbitrationBits : Nat := 16
/-- Bits of the tag field, the first after the arbitration field (R7, R31). -/
abbrev tagBits : Nat := 4
/-- Largest payload of a parcel in bytes (R7). -/
abbrev maxPayload : Nat := 32
/-- Largest FETCH count that an ACK can carry (R12, R110). -/
abbrev maxFetch : Nat := 8

/-! Kind codes of R11. -/

abbrev kindPut : BitVec 4 := 0
abbrev kindFetch : BitVec 4 := 1
abbrev kindSwap : BitVec 4 := 2
abbrev kindClaim : BitVec 4 := 3
abbrev kindRelease : BitVec 4 := 4
abbrev kindHold : BitVec 4 := 5
abbrev kindRouse : BitVec 4 := 6
abbrev kindAck : BitVec 4 := 8
abbrev kindNak : BitVec 4 := 9
abbrev kindDefer : BitVec 4 := 10

/-! Reason codes of R15. -/

abbrev reasonRefused : Byte := 0x01
abbrev reasonRange : Byte := 0x02
abbrev reasonDenied : Byte := 0x03
abbrev reasonNotHolder : Byte := 0x04
abbrev reasonMalformed : Byte := 0x05
abbrev reasonUnsupported : Byte := 0x06
abbrev reasonFull : Byte := 0x11
abbrev reasonHeld : Byte := 0x12
abbrev reasonDozing : Byte := 0x13

/-! Answer-fault subtypes of R33. -/

abbrev faultCorrupt : BitVec 4 := 1
abbrev faultTruncated : BitVec 4 := 2
abbrev faultIntrusion : BitVec 4 := 3
abbrev faultMisdirected : BitVec 4 := 4
abbrev faultWrongSource : BitVec 4 := 5
abbrev faultWrongClass : BitVec 4 := 6
abbrev faultStale : BitVec 4 := 7
abbrev faultWrongForm : BitVec 4 := 8

end Sys2Proof.Config
end

