-- ==== Sys2Proof/Syntax.lean ====
section
/-! DEFINITION. The commands and events the controller takes: one constructor of `Instr` for each row of
spec/opcode_table.json, with the operands the row needs. The table names no operands, so they are the model's
(logs 7, 8, 9, 10, 19, 20). The registers of section 12.5 stand beside them. -/

namespace Sys2Proof

/-- One stretch of SLINE at a constant level, measured in HCLK cycles by the receiver (R3, R24). -/
inductive LineItem where
  /-- a low pulse of this length; a mark-class pulse is reported once its class is certain (R133) -/
  | low (cycles : Nat)
  /-- the line high for this long -/
  | high (cycles : Nat)
  deriving DecidableEq, Repr

/-- Which HCLK edge a host access falls on (R132). -/
inductive Edge where
  /-- an edge of its own -/
  | own
  /-- the edge of the line event or timer expiry that was applied just before it -/
  | shared
  deriving DecidableEq, Repr

/-- The fields of a SCTL write other than LINK_EN and SOFT_RESET (R167). -/
structure SctlFields where
  intakeEn : Bool
  irqEn : Bool
  rdclr : Bool
  deriving DecidableEq, Repr

/-- The two words that hold the hold configuration (R170). -/
inductive HoldReg where
  | holdcfg
  | holdmrg
  deriving DecidableEq, Repr

/-- The registers of the map of section 12.5 (R164). -/
inductive Reg where
  | sctl | sstat | ident | linkcfg | tickdiv | cmdw | cmdr | evst | even | linkstat
  | stageh | stage (i : Fin 8) | slotsel | slotview (i : Fin 10) | cqview (i : Fin 2)
  | ibsel | ibview (i : Fin 10) | ibcount | quota | holdcfg | hmark (i : Fin 4) | holdmrg
  | tblsel | tbldata (i : Fin 2) | routecfg | dozecfg | dozestat | sessview (i : Fin 7) | claimview
  | cnt (i : Fin 8) | holdview (i : Fin 4) | boardrd (i : Fin 2) | boardwr (i : Fin 2)
  | boardstg (i : Fin 2) | boardmod (i : Fin 2) | board (i : Fin 64)
  deriving DecidableEq, Repr

/-- The commands and events of spec/opcode_table.json. `arg` is the argument field, bits 23:0 of CMDW (R165). -/
inductive Instr where
  /-- SUBMIT (R45, R46) -/
  | submit (edge : Edge)
  /-- CANCEL (R65) -/
  | cancel (arg : BitVec 24)
  /-- RETIRE (R63) -/
  | retire (arg : BitVec 24)
  /-- CQ_POP (R62) -/
  | cqPop
  /-- FLUSH_CLASS (R67) -/
  | flushClass (arg : BitVec 24)
  /-- TAG_RESET (R58) -/
  | tagReset (arg : BitVec 24)
  /-- INBOX_POP (R105) -/
  | inboxPop (arg : BitVec 24)
  /-- INBOX_FLUSH (R105) -/
  | inboxFlush (arg : BitVec 24)
  /-- TABLE_READ (R166) -/
  | tableRead (arg : BitVec 24)
  /-- TABLE_WRITE (R166) -/
  | tableWrite (arg : BitVec 24)
  /-- PUBLISH (R114) -/
  | publish (arg : BitVec 24)
  /-- PUBLISH_FORCE (R115) -/
  | publishForce (arg : BitVec 24)
  /-- WITHDRAW (R116) -/
  | withdraw (arg : BitVec 24)
  /-- ABSORB (R117) -/
  | absorb (arg : BitVec 24)
  /-- HOLD_SEND (R127) -/
  | holdSend (arg : BitVec 24)
  /-- SESSION_DROP (R75) -/
  | sessionDrop
  /-- BREAK_CLAIM (R83) -/
  | breakClaim
  /-- DOZE (R142) -/
  | doze
  /-- WAKE (R147) -/
  | wake (edge : Edge)
  /-- LINK_RESTART (R138) -/
  | linkRestart
  /-- QUARANTINE_CLEAR (R139) -/
  | quarantineClear
  /-- COUNTERS_CLEAR (R157) -/
  | countersClear
  /-- BAD_CODE: a write of CMDW with this code (R165); well-formed when the code is undefined -/
  | badCode (code : BitVec 8)
  /-- SOFT_RESET: a SCTL write with SOFT_RESET 1; its other fields are ignored (R159) -/
  | softReset
  /-- LINK_ENABLE: a SCTL write with LINK_EN 1 and SOFT_RESET 0 (R21, R167) -/
  | linkEnable (f : SctlFields)
  /-- LINK_DISABLE: a SCTL write with LINK_EN 0 and SOFT_RESET 0 (R23, R167) -/
  | linkDisable (f : SctlFields)
  /-- EVST_WRITE: a host write of EVST (R153) -/
  | evstWrite (w : Word) (edge : Edge)
  /-- EVST_READ_CLEAR: a host read of EVST (R154) -/
  | evstReadClear
  /-- BOARD_WRITE: a host write of BOARDn (R107) -/
  | boardWrite (n : Fin 64) (w : Word)
  /-- IDENT_WRITE (R85, R169) -/
  | identWrite (w : Word)
  /-- LINKCFG_WRITE (R24, R169) -/
  | linkcfgWrite (w : Word)
  /-- TICKDIV_WRITE (R130) -/
  | tickdivWrite (w : Word)
  /-- QUOTA_WRITE (R101) -/
  | quotaWrite (w : Word)
  /-- ROUTECFG_WRITE (R97) -/
  | routecfgWrite (w : Word)
  /-- HMARK_WRITE (R122) -/
  | hmarkWrite (n : Fin 4) (w : Word)
  /-- HOLDCFG_WRITE: a host write of HOLDCFG or HOLDMRG (R118, R170) -/
  | holdcfgWrite (r : HoldReg) (w : Word)
  /-- DOZECFG_WRITE (R141, R170) -/
  | dozecfgWrite (w : Word)
  /-- REGISTER_WRITE: a host write at this byte offset of the window; A[9:2] decide (R164) -/
  | registerWrite (off : BitVec 10) (w : Word)
  /-- RESET: an edge of RESET#, its assertion while it is high and its release while it is low (R158) -/
  | reset
  /-- POWER_ON: an assertion of RESET#, which its release ends (R158) -/
  | powerOn
  /-- LEAD_MARK: a pulse outside a parcel proves mark-class (R27, R32, R39, R133) -/
  | leadMark
  /-- PARCEL_RECEIVED: the reception begun by the last lead mark ends; `items` is the line as measured from the
  end of that lead mark to the item that ends the reception (R4, R36) -/
  | parcelReceived (items : List LineItem)
  /-- CONTENTION_WON (R28) -/
  | contentionWon
  /-- ARBITRATION_LOSS (R28) -/
  | arbitrationLoss
  /-- BIT_CLASH at this bit of the own parcel, counted from 0 at the first class bit (R30, R31, R40) -/
  | bitClash (bit : Nat)
  /-- MARK_FAULT on an own parcel (R28, R30, R40, R133) -/
  | markFault
  /-- SENT_CLEANLY: an own call or HOLD parcel (R30) -/
  | sentCleanly
  /-- ANSWER_SENT (R40) -/
  | answerSent
  /-- ANSWER_START (R39) -/
  | answerStart
  /-- ANSWER_WINDOW_EXPIRY (R32) -/
  | answerWindowExpiry
  /-- QUIET_GAP_END (R5) -/
  | quietGapEnd
  /-- LINE_HIGH (R136) -/
  | lineHigh
  /-- STUCK_TIMER_EXPIRY (R135) -/
  | stuckTimerExpiry
  /-- INCOMING_HOLD_EXPIRY of this class (R120) -/
  | incomingHoldExpiry (c : Fin 4)
  /-- BACKOFF_EXPIRY of this class (R54) -/
  | backoffExpiry (c : Fin 4)
  /-- REFRESH_TIMER_EXPIRY (R125) -/
  | refreshTimerExpiry
  /-- LEASE_EXPIRY (R82) -/
  | leaseExpiry
  /-- MIRROR_EXPIRY of Session Stack entry k, counted from the bottom as in SESSVIEWk (R73, R76) -/
  | mirrorExpiry (k : Nat)
  /-- DOZE_IDLE_EXPIRY (R144) -/
  | dozeIdleExpiry
  /-- DOZE_ENTERED (R143) -/
  | dozeEntered
  /-- STRAY_PULSE: a low pulse proves data-length or tail-length, or is ignored; `outlastsWindow` says that in
  AWAITING it was still low when the answer window ended (R4, R32) -/
  | strayPulse (outlastsWindow : Bool)
  deriving DecidableEq, Repr

end Sys2Proof
end

