-- ==== Sys2Proof/Decode.lean ====
section
/-! DEFINITION. What words mean. spec/opcode_table.json gives no row any bits, so no word spells a command by the
table (log 17). The Host Port gives words a meaning of its own: an offset of the window names a register (R164,
section 12.5), and a word written there is one row of the table (R165, R167). -/

namespace Sys2Proof

/-- The command that a word spells by the bits of spec/opcode_table.json: none, since the table gives no row any
bits. -/
def decodeTableWord (_nbits _w : Nat) : Option Instr := none

/-- The i-th of `n` consecutive words from word address `base`, if `a` is one. -/
def wordIndex (base n a : Nat) : Option (Fin n) :=
  if h : base ≤ a ∧ a < base + n then some ⟨a - base, by omega⟩ else none

/-- The registers of one word each (section 12.5). -/
def singleRegAtWord (a : Nat) : Option Reg :=
  if a = 0x00 then some .sctl else if a = 0x01 then some .sstat else if a = 0x02 then some .ident
  else if a = 0x03 then some .linkcfg else if a = 0x04 then some .tickdiv else if a = 0x05 then some .cmdw
  else if a = 0x06 then some .cmdr else if a = 0x07 then some .evst else if a = 0x08 then some .even
  else if a = 0x09 then some .linkstat else if a = 0x10 then some .stageh else if a = 0x1C then some .slotsel
  else if a = 0x2C then some .ibsel else if a = 0x37 then some .ibcount else if a = 0x38 then some .quota
  else if a = 0x39 then some .holdcfg else if a = 0x3E then some .holdmrg else if a = 0x40 then some .tblsel
  else if a = 0x44 then some .routecfg else if a = 0x48 then some .dozecfg else if a = 0x49 then some .dozestat
  else if a = 0x54 then some .claimview else none

/-- The register at a word address A[9:2] of the window (section 12.5). -/
def regAtWord (a : Nat) : Option Reg :=
  singleRegAtWord a
  |>.or ((wordIndex 0x11 8 a).map Reg.stage)
  |>.or ((wordIndex 0x1D 10 a).map Reg.slotview)
  |>.or ((wordIndex 0x28 2 a).map Reg.cqview)
  |>.or ((wordIndex 0x2D 10 a).map Reg.ibview)
  |>.or ((wordIndex 0x3A 4 a).map Reg.hmark)
  |>.or ((wordIndex 0x41 2 a).map Reg.tbldata)
  |>.or ((wordIndex 0x4C 7 a).map Reg.sessview)
  |>.or ((wordIndex 0x58 8 a).map Reg.cnt)
  |>.or ((wordIndex 0x60 4 a).map Reg.holdview)
  |>.or ((wordIndex 0x64 2 a).map Reg.boardrd)
  |>.or ((wordIndex 0x66 2 a).map Reg.boardwr)
  |>.or ((wordIndex 0x68 2 a).map Reg.boardstg)
  |>.or ((wordIndex 0x6A 2 a).map Reg.boardmod)
  |>.or ((wordIndex 0x80 64 a).map Reg.board)

/-- The register at a byte offset of the window; none where the map names none (R164). -/
def regAt (off : BitVec 10) : Option Reg := regAtWord (off.toNat / 4)

/-- The command codes of section 12.3, with the argument bits 23:0; any other code is BAD_CODE (R165). -/
def decodeCommand (code : BitVec 8) (arg : BitVec 24) : Instr :=
  if code = 0x01 then .submit .own
  else if code = 0x02 then .cancel arg
  else if code = 0x03 then .retire arg
  else if code = 0x04 then .cqPop
  else if code = 0x05 then .flushClass arg
  else if code = 0x06 then .tagReset arg
  else if code = 0x08 then .inboxPop arg
  else if code = 0x09 then .inboxFlush arg
  else if code = 0x0C then .tableRead arg
  else if code = 0x0D then .tableWrite arg
  else if code = 0x10 then .publish arg
  else if code = 0x11 then .publishForce arg
  else if code = 0x12 then .withdraw arg
  else if code = 0x13 then .absorb arg
  else if code = 0x18 then .holdSend arg
  else if code = 0x1C then .sessionDrop
  else if code = 0x1D then .breakClaim
  else if code = 0x20 then .doze
  else if code = 0x21 then .wake .own
  else if code = 0x24 then .linkRestart
  else if code = 0x25 then .quarantineClear
  else if code = 0x28 then .countersClear
  else .badCode code

/-- The 22 command codes of section 12.3. -/
def commandCodes : List (BitVec 8) :=
  [0x01, 0x02, 0x03, 0x04, 0x05, 0x06, 0x08, 0x09, 0x0C, 0x0D, 0x10, 0x11, 0x12, 0x13, 0x18, 0x1C, 0x1D, 0x20,
    0x21, 0x24, 0x25, 0x28]

/-- The fields of a SCTL word other than LINK_EN and SOFT_RESET (R167). -/
def SctlFields.ofWord (w : Word) : SctlFields where
  intakeEn := w.getLsbD 1
  irqEn := w.getLsbD 4
  rdclr := w.getLsbD 5

/-- The row of the table that a host write on an edge of its own performs (R164, R165, R167). -/
def decodeWrite (off : BitVec 10) (w : Word) : Instr :=
  match regAt off with
  | some .sctl =>
    if w.getLsbD 31 then .softReset
    else if w.getLsbD 0 then .linkEnable (SctlFields.ofWord w) else .linkDisable (SctlFields.ofWord w)
  | some .cmdw => decodeCommand (w.extractLsb' 24 8) (w.extractLsb' 0 24)
  | some .evst => .evstWrite w .own
  | some .ident => .identWrite w
  | some .linkcfg => .linkcfgWrite w
  | some .tickdiv => .tickdivWrite w
  | some .quota => .quotaWrite w
  | some .routecfg => .routecfgWrite w
  | some (.hmark n) => .hmarkWrite n w
  | some .holdcfg => .holdcfgWrite .holdcfg w
  | some .holdmrg => .holdcfgWrite .holdmrg w
  | some .dozecfg => .dozecfgWrite w
  | some (.board n) => .boardWrite n w
  | _ => .registerWrite off w

end Sys2Proof
end

