-- ==== Sys2Proof/Machine/State.lean ====
section
/-! DEFINITION. The state of the DB-24 as plain data, block by block as the manual names its blocks, the reasons
a step can stop, and the state after reset (section 11.2). -/

namespace Sys2Proof.Machine

/-- The controller has no fault that stops it: errors are results, events and counters. No constructor, so no step
can fault. -/
inductive Fault where
  deriving DecidableEq, Repr

/-- Reasons for which a command is refused. -/
inductive Refusal where
  /-- raised only by an arm of `exec` whose command has no meaning yet; no such arm is left; safe -/
  | notModelled (mnemonic : String)
  deriving DecidableEq, Repr

/-! ## Timers -/

/-- A running timer (R131): `us` whole or begun microseconds are left, and `cyc` HCLK cycles of the one in
progress. -/
structure Timer where
  us : Nat
  cyc : Nat
  deriving DecidableEq, Repr

/-! ## Parcels -/

/-- The fields of a parcel but for its check (R7); the length field is the payload's length. -/
structure Parcel where
  cls : BitVec 2
  dest : BitVec 5
  kind : BitVec 4
  source : BitVec 5
  tag : BitVec 4
  payload : List Byte
  deriving DecidableEq, Repr

/-! ## Link Engine (chapter 2) -/

/-- The three HOLD candidates of R49. -/
inductive HoldKind where
  | assertion
  | release
  | manual
  deriving DecidableEq, Repr

/-- The owner of a parcel that the Link Engine sends (R29): the Call Engine, or the Hold Unit. -/
inductive Owner where
  | call
  | hold (k : HoldKind)
  deriving DecidableEq, Repr

/-- The link state with the parcel that belongs to it (R25 to R40). State DOZE is this activity while the Doze
Unit is DOZING (R25, R43). -/
inductive Activity where
  | off
  | settling
  | idle
  /-- sending the arbitration field of `p` -/
  | contending (o : Owner) (p : Parcel)
  /-- contention won; sending the rest of `p` -/
  | transmitting (o : Owner) (p : Parcel)
  /-- the answer window of the own unicast call `p` is open -/
  | awaiting (p : Parcel)
  /-- receiving; `window` holds the own call when this is the window parcel of its attempt (R32) -/
  | listening (window : Option Parcel)
  /-- LISTENING as the receiver of a pulse that came before the start of a decided answer and is not classified yet
  (R39) -/
  | pulse
  /-- the answer `a` is decided; `begun` once its lead mark has begun (R39) -/
  | answering (a : Parcel) (begun : Bool)
  | stuck
  deriving DecidableEq, Repr

/-- What the Link Engine knows of the bus (R5, R26, R27, R30). -/
inductive Bus where
  /-- the quiet gap has run to its end -/
  | free
  /-- outside a parcel with the quiet gap running, or inside one -/
  | busy
  /-- every pulse is ignored until a full quiet gap has passed -/
  | ignoring
  deriving DecidableEq, Repr

/-- The pin SLINE as the controller sees and drives it: the level, the stuck timer that follows it (R134), and the
own cell in progress (R2). -/
structure Line where
  /-- the model's own: what the other nodes do to SLINE at each coming HCLK edge, `true` where one pulls it low; they
  release it where the list has ended (log 5) -/
  others : List Bool := []
  /-- another node pulls SLINE low (R1) -/
  pulled : Bool := false
  /-- SLINE is low, and has been for this many HCLK cycles (R27, R133); `none` while it is high -/
  low : Option Nat := none
  /-- the stuck timer (R134) -/
  stuck : Option Timer := none
  /-- the own cell in progress: 0 is the lead cell, then one for each bit, then the tail cell (R2) -/
  cell : Nat := 0
  /-- HCLK cycles since the falling edge that began that cell (R2) -/
  cellAge : Nat := 0
  deriving DecidableEq, Repr

structure LinkEngine where
  act : Activity := .off
  bus : Bus := .ignoring
  line : Line := {}
  /-- consecutive fault counter (R41) -/
  faults : BitVec 4 := 0
  quarantine : Bool := false
  /-- LINKSTAT.LAST_FAULT (R35) -/
  lastFault : BitVec 4 := 0
  /-- LINKSTAT.CONFLICTS (R35) -/
  conflicts : BitVec 8 := 0
  /-- HCLK cycles since own call end (R72, R73), while an own unicast call awaits its result -/
  callAge : Option Nat := none
  deriving DecidableEq, Repr

/-! ## Call Engine (chapter 3) -/

/-- A slot number, 0..23. -/
abbrev SlotId := Fin Config.slotCount

inductive SlotState where
  | free | queued | active | done | harvested
  deriving DecidableEq, Repr

/-- Outcome codes in the order of R60. -/
inductive CallOutcome where
  | acked | sent | refused | deferred | noAnswer | answerFault | linkFault | starved | cancelled
  | chainBroken | orderFault | stackFull | duplicateClaim | badIdentity | flushed
  deriving DecidableEq, Repr

/-- One call slot (R46, R47, R64). The defaults are those of a FREE slot. -/
structure Slot where
  state : SlotState := .free
  kind : BitVec 4 := 0
  cls : Fin 4 := 0
  dest : BitVec 5 := 0
  idsel : Bool := false
  len : BitVec 6 := 0
  budget : BitVec 3 := 0
  ceiling : BitVec 8 := 0
  chain : Bool := false
  payload : List Byte := []
  attempts : Nat := 0
  losses : Nat := 0
  tag : Option (BitVec 4) := none
  reason : Option Byte := none
  answer : List Byte := []
  outcome : Option CallOutcome := none
  cancelPending : Bool := false
  deriving DecidableEq, Repr

/-- A completion record (R61). -/
structure Completion where
  slot : SlotId
  outcome : CallOutcome
  attempts : Nat
  losses : Nat
  reason : Option Byte
  answerLen : Nat
  sequence : BitVec 8
  deriving DecidableEq, Repr

structure CallEngine where
  slots : Vector Slot Config.slotCount := Vector.replicate _ {}
  queues : Vector (List SlotId) 4 := Vector.replicate _ []
  backoff : Vector (Option Timer) 4 := Vector.replicate _ none
  current : Option SlotId := none
  successor : Option SlotId := none
  tags : Vector (BitVec 4) 31 := Vector.replicate _ 0
  cq : List Completion := []
  seq : BitVec 8 := 0
  deriving DecidableEq, Repr

/-! ## Session Unit (chapter 4) -/

/-- One entry of the Session Stack (R70). -/
structure SessEntry where
  node : BitVec 5
  identity : BitVec 5
  lease : BitVec 8
  mirror : Option Timer
  lapsed : Bool
  deriving DecidableEq, Repr

inductive EndCause where
  | none | released | expired | broken
  deriving DecidableEq, Repr

structure SessionUnit where
  /-- the Session Stack, its top first -/
  stack : List SessEntry := []
  /-- the session gate: `none` while open (R71) -/
  gate : Option SlotId := .none
  holder : Option (BitVec 5) := .none
  leaseTimer : Option Timer := .none
  lastEnd : EndCause := .none
  deriving DecidableEq, Repr

/-! ## Intake (chapter 5) -/

/-- The identity hit of R86. -/
inductive IdHit where
  | primary | aliasHit | broadcast
  deriving DecidableEq, Repr

inductive RepeatKind where
  | put | swap
  deriving DecidableEq, Repr

/-- A repeat record that is not empty (R92). -/
structure RepeatRecord where
  tag : BitVec 4
  kind : RepeatKind
  value : Word
  deriving DecidableEq, Repr

/-- A delivered record (R100). -/
structure InRecord where
  source : BitVec 5
  hit : IdHit
  cls : BitVec 2
  tag : BitVec 4
  payload : List Byte
  arrival : BitVec 16
  deriving DecidableEq, Repr

structure IntakeUnit where
  repeats : Vector (Option RepeatRecord) 30 := Vector.replicate _ none
  inboxes : Vector (List InRecord) 4 := Vector.replicate _ []
  arrival : BitVec 16 := 0
  deriving DecidableEq, Repr

/-! ## Notice Board (chapter 6) -/

/-- One board entry (R106). -/
structure BoardEntry where
  committed : Word := 0
  staged : Word := 0
  isStaged : Bool := false
  modified : Bool := false
  remoteRead : Bool := false
  remoteWrite : Bool := false
  deriving DecidableEq, Repr

/-- The Notice Board. -/
abbrev Board := Vector BoardEntry Config.boardSize

/-! ## Hold Unit (chapter 7). A class set is four bits, bit c standing for class c. -/

structure HoldUnit where
  timers : Vector (Option Timer) 4 := Vector.replicate _ none
  /-- which inboxes are HOLDING (R122) -/
  holding : Vector Bool 4 := Vector.replicate _ false
  asserted : BitVec 4 := 0
  pendAssert : BitVec 4 := 0
  pendRelease : BitVec 4 := 0
  refresh : Option Timer := none
  /-- the manual request: mask and time (R127) -/
  manual : Option (BitVec 4 × BitVec 16) := none
  deriving DecidableEq, Repr

/-! ## Doze Unit (chapter 9) -/

inductive DozeState where
  | awake | pending | dozing
  deriving DecidableEq, Repr

structure DozeUnit where
  state : DozeState := .awake
  idle : Option Timer := none
  /-- WAKE_CAUSE (R146) -/
  causes : BitVec 4 := 0
  /-- the filter index of DOZESTAT (R150) -/
  filter : BitVec 2 := 0
  deriving DecidableEq, Repr

/-! ## Event Unit (chapter 10) -/

/-- The sticky events of R151, in bit order from bit 5. -/
inductive Event where
  | inboxDeferred | inboxDropped | holdIn | holdOut | lineStuck | lineBack | quarantine | nodeConflict
  | answerFault | unsolicited | claimTaken | claimEnded | leaseLapsed | sessionFault | boardSwapped
  | publishConflict | dozeEntered | woken | cmdError | configRefused | counterHalf | repeatSeen
  deriving DecidableEq, Repr

/-- The traffic counters of R156, in register order. -/
inductive Counter where
  | txParcels | rxParcels | rxCheckErrors | arbLosses | markFaults | malformed | inboxDrops | repeats
  deriving DecidableEq, Repr

structure EventUnit where
  /-- the sticky bits 26:5 of EVST; the level bits are views (R151) -/
  sticky : Word := 0
  counters : Vector (BitVec 16) 8 := Vector.replicate _ 0
  /-- INT# is driven low (R155) -/
  intLow : Bool := false
  /-- the model's own: sticky bits raised on the present HCLK edge (R153) -/
  edgeRaised : Word := 0
  /-- the model's own: a line event of the present edge woke the controller (R147) -/
  edgeWoken : Bool := false
  /-- the model's own: a line event or an expiry of the present edge has happened (R132) -/
  edgeBegun : Bool := false
  /-- the model's own: SLINE fell on the present HCLK edge (R27, R39) -/
  edgeFell : Bool := false
  deriving DecidableEq, Repr

/-! ## Configuration and host-side registers (chapter 12) -/

structure Ident where
  primary : BitVec 5 := 0
  aliasId : BitVec 5 := 0
  claimEn : Bool := true
  repeatEn : Bool := true
  lease : BitVec 8 := 100
  deriving DecidableEq, Repr

structure LinkCfg where
  rate : BitVec 2 := 2
  faultLimit : BitVec 4 := 8
  stuckLimit : BitVec 8 := 50
  retryDelay : BitVec 8 := 10
  deriving DecidableEq, Repr

/-- HOLDCFG with HOLDMRG's REFRESH_MARGIN (R118, R170). -/
structure HoldCfg where
  inEn : Bool := true
  outEn : Bool := false
  noRelease : Bool := false
  holdTime : BitVec 16 := 256
  refreshMargin : BitVec 16 := 32
  deriving DecidableEq, Repr

/-- HMARKn but for its HOLDING bit, which the Hold Unit holds (R122). -/
structure HMark where
  high : BitVec 6 := 8
  low : BitVec 6 := 4
  classes : BitVec 4 := 0
  deriving DecidableEq, Repr

inductive RouteAction where
  | deliver | discard | refuse
  deriving DecidableEq, Repr

/-- ROUTECFG (R97). -/
structure RouteCfg where
  action : RouteAction := .deliver
  inbox : Fin 4 := 0
  deriving DecidableEq, Repr

/-- A routing table entry (R96). -/
structure Route where
  valid : Bool := false
  source : BitVec 5 := 0
  idset : BitVec 3 := 0
  classes : BitVec 4 := 0
  inbox : Fin 4 := 0
  action : RouteAction := .deliver
  deriving DecidableEq, Repr

/-- A wake filter (R149). -/
structure WakeFilter where
  valid : Bool := false
  source : BitVec 5 := 0
  idset : BitVec 3 := 0
  mask : Byte := 0
  pattern : Byte := 0
  deriving DecidableEq, Repr

structure DozeCfg where
  auto : Bool := false
  answerInDoze : Bool := true
  rouseWake : Bool := true
  submitWake : Bool := true
  dozeIdle : BitVec 8 := 50
  deriving DecidableEq, Repr

/-- What the host programs and SOFT_RESET keeps whole (section 11.2). The defaults are the values after reset. -/
structure Configuration where
  ident : Ident := {}
  linkcfg : LinkCfg := {}
  tickdiv : BitVec 10 := 49
  quota : Vector Byte 4 := Vector.replicate _ 10
  holdcfg : HoldCfg := {}
  hmark : Vector HMark 4 := Vector.replicate _ {}
  routecfg : RouteCfg := {}
  dozecfg : DozeCfg := {}
  even : Word := 0
  routes : Vector Route 16 := Vector.replicate _ {}
  filters : Vector WakeFilter 4 := Vector.replicate _ {}
  deriving DecidableEq, Repr

/-- SCTL but for LINK_EN, which is `link.act ≠ off` (R21, R23, R167). -/
structure Sctl where
  intakeEn : Bool := false
  irqEn : Bool := false
  rdclr : Bool := false
  deriving DecidableEq, Repr

/-- Command results in the order of their codes (R165). -/
inductive CmdResult where
  | ok | badCode | badArgument | wrongState | noResource | empty | disabled
  deriving DecidableEq, Repr

/-- CMDR (R165). -/
structure Cmdr where
  code : BitVec 8 := 0
  result : CmdResult := .ok
  value : BitVec 16 := 0
  deriving DecidableEq, Repr

structure HostRegs where
  stageh : Word := 0
  stage : Vector Word 8 := Vector.replicate _ 0
  slotsel : BitVec 5 := 0
  ibsel : BitVec 2 := 0
  tblIndex : BitVec 8 := 0
  tblTable : BitVec 2 := 0
  tbldata0 : Word := 0
  tbldata1 : Word := 0
  cmdr : Cmdr := {}
  /-- the model's own: the word last driven on D[31:0] by a host read of the table -/
  readData : Word := 0
  deriving DecidableEq, Repr

/-- The whole controller, and the queue of commands that wait, first in, first out. -/
structure State where
  pending : List Instr := []
  /-- RESET# is low, or power is not yet stable (R158) -/
  inReset : Bool := false
  cfg : Configuration := {}
  sctl : Sctl := {}
  host : HostRegs := {}
  link : LinkEngine := {}
  calls : CallEngine := {}
  sess : SessionUnit := {}
  intake : IntakeUnit := {}
  board : Board := Vector.replicate _ {}
  hold : HoldUnit := {}
  doze : DozeUnit := {}
  events : EventUnit := {}
  deriving DecidableEq, Repr

/-- The state after power-on and RESET#: every field at the value its rule gives (R158, section 11.2). -/
def State.reset : State := {}

end Sys2Proof.Machine
end

