-- ==== Sys2Proof/Machine/Flags.lean ====
section
/-! DEFINITION. The Event Unit (chapter 10): event bits, traffic counters and the INT# output. -/

namespace Sys2Proof.Machine

/-- The position of a sticky event in EVST and EVEN (R151). -/
def Event.bit : Event → Nat
  | .inboxDeferred => 5
  | .inboxDropped => 6
  | .holdIn => 7
  | .holdOut => 8
  | .lineStuck => 9
  | .lineBack => 10
  | .quarantine => 11
  | .nodeConflict => 12
  | .answerFault => 13
  | .unsolicited => 14
  | .claimTaken => 15
  | .claimEnded => 16
  | .leaseLapsed => 17
  | .sessionFault => 18
  | .boardSwapped => 19
  | .publishConflict => 20
  | .dozeEntered => 21
  | .woken => 22
  | .cmdError => 23
  | .configRefused => 24
  | .counterHalf => 25
  | .repeatSeen => 26

/-- The word with only this event's bit set. -/
def Event.mask (e : Event) : Word := BitVec.twoPow 32 e.bit

/-- The register number of a counter: CNT0..7 (R156). -/
def Counter.index : Counter → Fin 8
  | .txParcels => 0
  | .rxParcels => 1
  | .rxCheckErrors => 2
  | .arbLosses => 3
  | .markFaults => 4
  | .malformed => 5
  | .inboxDrops => 6
  | .repeats => 7

/-- "Event e is raised": its sticky bit becomes 1 (R151), and it counts as raised on the present edge (R153). -/
def raise (e : Event) (s : State) : State :=
  { s with events := { s.events with
      sticky := s.events.sticky ||| e.mask
      edgeRaised := s.events.edgeRaised ||| e.mask } }

/-- Raise an event when a condition holds. -/
def raiseIf (b : Bool) (e : Event) (s : State) : State :=
  if b then raise e s else s

/-- A counter gains 1, saturates at 65535, and raises COUNTER_HALF when it goes from 32767 to 32768 (R156). -/
def count (c : Counter) (s : State) : State :=
  let v := s.events.counters[c.index]
  raiseIf (v = 32767#16) .counterHalf
    { s with events := { s.events with
        counters := s.events.counters.set c.index (if v = 65535#16 then v else v + 1) } }

/-- The level bits of EVST: CQ_READY in bit 0, INBOXn_READY in bit 1 + n (R62, R103, R151). -/
def State.levels (s : State) : Word :=
  BitVec.ofFnLE fun i : Fin 32 =>
    if i.val = 0 then !s.calls.cq.isEmpty
    else if h : 1 ≤ i.val ∧ i.val ≤ 4 then !(s.intake.inboxes[i.val - 1]'(by omega)).isEmpty
    else false

/-- EVST as a read returns it (R151). -/
def State.evst (s : State) : Word := s.events.sticky ||| s.levels

/-- When INT# is driven low (R155). -/
def State.interrupt (s : State) : Bool := s.sctl.irqEn && decide (s.evst &&& s.cfg.even ≠ 0)

/-- INT# takes its level within every event, after the event's other changes (R155). -/
def updateInt (s : State) : State := { s with events := { s.events with intLow := s.interrupt } }

/-- A write of EVST in write-one-to-clear mode clears the sticky bits written as 1 that are not in `keep`; in
read-to-clear mode it is ignored (R153, R154). -/
def evstClear (w keep : Word) (s : State) : State :=
  if s.sctl.rdclr then s
  else { s with events := { s.events with sticky := s.events.sticky &&& ~~~(w &&& ~~~keep) } }

/-- A host read of EVST returns its bits and, in read-to-clear mode, clears the sticky bits it returned (R154). -/
def evstRead (s : State) : State :=
  { s with
    host := { s.host with readData := s.evst }
    events := { s.events with sticky := if s.sctl.rdclr then 0 else s.events.sticky } }

/-- Nothing has happened on the present HCLK edge yet: an edge begins or has ended (R132, R153). -/
def clearEdge (s : State) : State :=
  { s with events := { s.events with edgeRaised := 0, edgeWoken := false, edgeBegun := false, edgeFell := false } }

/-- A line event or an expiry happens on the present HCLK edge (R132). -/
def markEdge (s : State) : State := { s with events := { s.events with edgeBegun := true } }

/-- SLINE falls on the present HCLK edge (R27, R39). -/
def markFall (s : State) : State := { s with events := { s.events with edgeFell := true } }

end Sys2Proof.Machine
end

