-- ==== Sys2Proof/Machine/Ops.lean ====
section
/-! DEFINITION. Operations that several blocks share: timers (R131), class sets, slots and queues, identities. -/

namespace Sys2Proof.Machine

/-! ## Timers (R130, R131) -/

/-- A timer set to run `us` µs, each of `div` + 1 HCLK cycles, from the present edge; 0 µs is no timer. -/
def Timer.start (div : Nat) (us : Nat) : Option Timer :=
  if us = 0 then none else some { us := us, cyc := div + 1 }

/-- One HCLK cycle passes: the microsecond in progress completes with the length it began with, and the next one
takes the present length `div` + 1 (R130). -/
def Timer.tick (div : Nat) (t : Timer) : Timer :=
  if 1 < t.cyc then { t with cyc := t.cyc - 1 } else { us := t.us - 1, cyc := div + 1 }

/-- Whether the timer has run out. -/
def Timer.due (t : Timer) : Bool := t.us == 0

/-- The time left in ms, rounded up (R76, R84). -/
def Timer.ms (t : Timer) : Nat := (t.us + 999) / 1000

/-- A timer of `us` µs that was started `age` HCLK cycles ago; none if it has run out by now. -/
def Timer.startAged (div us age : Nat) : Option Timer :=
  let total := us * (div + 1)
  if total ≤ age then none
  else
    let left := total - age
    some { us := (left + div) / (div + 1), cyc := (left - 1) % (div + 1) + 1 }

/-- TICKDIV as a number (R130). -/
def State.div (s : State) : Nat := s.cfg.tickdiv.toNat

/-- One hold quantum, 32 bt, in µs at the configured rate (R118). -/
def State.quantum (s : State) : Nat := 32 * 2 ^ s.cfg.linkcfg.rate.toNat

/-! ## Class numbers -/

/-- The classes in the order of urgency. -/
def classes : List (Fin 4) := [0, 1, 2, 3]

/-- A class field as a class number. -/
def toClass (c : BitVec 2) : Fin 4 := c.toFin

/-! ## Identities (R86) -/

/-- Whether `n` is a current own identity: a non-zero value of PRIMARY or ALIAS (R51). -/
def Ident.owns (i : Ident) (n : BitVec 5) : Bool :=
  n ≠ 0 && (n = i.primary || n = i.aliasId)

/-- The identity hit of a parcel that reaches Intake (R86). -/
def Ident.hit (i : Ident) (dest : BitVec 5) : IdHit :=
  if dest = 0 then .broadcast else if dest = i.primary then .primary else .aliasHit

/-- The place of an identity hit in an IDSET: primary, alias, broadcast (R99, R149). -/
def IdHit.bit : IdHit → Nat
  | .primary => 0
  | .aliasHit => 1
  | .broadcast => 2

/-! ## Link state -/

/-- SCTL.LINK_EN: the link is enabled exactly while it is not OFF (R21, R23). -/
def State.linkEn (s : State) : Bool := s.link.act ≠ .off

/-- Change the Link Engine's activity. -/
def setAct (a : Activity) (s : State) : State := { s with link := { s.link with act := a } }

/-- Go to IDLE with this knowledge of the bus. -/
def toIdle (b : Bus) (s : State) : State := { s with link := { s.link with act := .idle, bus := b } }

/-! ## Slots and queues -/

/-- Change one slot. -/
def updSlot (n : SlotId) (f : Slot → Slot) (s : State) : State :=
  { s with calls := { s.calls with slots := s.calls.slots.set n (f s.calls.slots[n]) } }

/-- The number of slots in a state (R47). -/
def State.slotsIn (s : State) (p : SlotState → Bool) : Nat :=
  s.calls.slots.toList.countP fun x => p x.state

/-- A call that lacks a final outcome: QUEUED or ACTIVE. -/
def Slot.open (x : Slot) : Bool := x.state = .queued || x.state = .active

/-- The element directly behind `n` in a queue. -/
def behind (n : SlotId) : List SlotId → Option SlotId
  | [] => none
  | m :: rest => if m = n then rest.head? else behind n rest

/-- The tag table entry of a destination (R56). -/
def State.tagOf (s : State) (d : BitVec 5) : BitVec 4 :=
  if h : d.toNat < 31 then s.calls.tags[d.toNat] else 0

/-- The repeat record of a source 1..30 (R92). -/
def State.repeatOf (s : State) (src : BitVec 5) : Option RepeatRecord :=
  if h : 1 ≤ src.toNat ∧ src.toNat ≤ 30 then s.intake.repeats[src.toNat - 1] else none

/-! ## Words of bits and bytes -/

/-- Four payload bytes as a word, the first in bits 31:24; bytes beyond the list read 0 (R44). -/
def bytesWord (bs : List Byte) (k : Nat) : Word :=
  bs.getD (4 * k) 0 ++ bs.getD (4 * k + 1) 0 ++ bs.getD (4 * k + 2) 0 ++ bs.getD (4 * k + 3) 0

/-- A word as four bytes, most significant first (R7, R110). -/
def wordBytes (w : Word) : List Byte :=
  [w.extractLsb' 24 8, w.extractLsb' 16 8, w.extractLsb' 8 8, w.extractLsb' 0 8]

/-- The first `n` bytes of the staging registers STAGE0..7 (R44). -/
def HostRegs.stageBytes (h : HostRegs) (n : Nat) : List Byte :=
  (h.stage.toList.flatMap wordBytes).take n

end Sys2Proof.Machine
end

