-- ==== Sys2Proof/Machine/Operands.lean ====
section
/-! DEFINITION. The operand forms of the host side: the argument fields of commands (section 12.3), the bit
layouts of configuration registers and table entries, and the codes that views show (sections 12.6, 12.7). -/

namespace Sys2Proof.Machine

/-! ## Argument fields (section 12.3) -/

/-- A single-number argument, or FIRST of a range: bits 7:0. -/
def argLow (arg : BitVec 24) : BitVec 8 := arg.extractLsb' 0 8
/-- COUNT of a range: bits 15:8 (R113). -/
def argCount (arg : BitVec 24) : BitVec 8 := arg.extractLsb' 8 8
/-- SEL of a table command: bit 23 (R166). -/
def argSel (arg : BitVec 24) : Bool := arg.getLsbD 23
/-- The table number of a table command with SEL 0: bits 17:16 (R166). -/
def argTable (arg : BitVec 24) : BitVec 2 := arg.extractLsb' 16 2
/-- The time of HOLD_SEND: bits 15:0 (R127). -/
def argTime (arg : BitVec 24) : BitVec 16 := arg.extractLsb' 0 16
/-- The class mask of HOLD_SEND: bits 19:16 (R127). -/
def argMask (arg : BitVec 24) : BitVec 4 := arg.extractLsb' 16 4

/-! ## Small codes -/

/-- A Bool as one bit. -/
abbrev bit (b : Bool) : BitVec 1 := BitVec.ofBool b

/-- The action codes of R97 and R99; 3 is none. -/
def RouteAction.ofCode (c : BitVec 2) : Option RouteAction :=
  if c = 0 then some .deliver else if c = 1 then some .discard else if c = 2 then some .refuse else none

def RouteAction.code : RouteAction → BitVec 2
  | .deliver => 0
  | .discard => 1
  | .refuse => 2

/-- The slot state codes of section 12.7. -/
def SlotState.code : SlotState → BitVec 3
  | .free => 0
  | .queued => 1
  | .active => 2
  | .done => 3
  | .harvested => 4

/-- The outcome codes of R60. -/
def CallOutcome.code : CallOutcome → BitVec 4
  | .acked => 0
  | .sent => 1
  | .refused => 2
  | .deferred => 3
  | .noAnswer => 4
  | .answerFault => 5
  | .linkFault => 6
  | .starved => 7
  | .cancelled => 8
  | .chainBroken => 9
  | .orderFault => 10
  | .stackFull => 11
  | .duplicateClaim => 12
  | .badIdentity => 13
  | .flushed => 14

/-- The result codes of R165. -/
def CmdResult.code : CmdResult → BitVec 3
  | .ok => 0
  | .badCode => 1
  | .badArgument => 2
  | .wrongState => 3
  | .noResource => 4
  | .empty => 5
  | .disabled => 6

/-- The end causes as CLAIMVIEW shows them (R84). -/
def EndCause.code : EndCause → BitVec 2
  | .none => 0
  | .released => 1
  | .expired => 2
  | .broken => 3

/-- The doze states as SSTAT shows them (R140). -/
def DozeState.code : DozeState → BitVec 2
  | .awake => 0
  | .pending => 1
  | .dozing => 2

/-- The identity hits as IBVIEW0 shows them (section 12.7). -/
def IdHit.code : IdHit → BitVec 2
  | .primary => 0
  | .aliasHit => 1
  | .broadcast => 2

/-- The link state codes of R25, but for DOZE. -/
def Activity.code : Activity → BitVec 4
  | .off => 0
  | .settling => 1
  | .idle => 2
  | .contending _ _ => 3
  | .transmitting _ _ => 4
  | .awaiting _ => 5
  | .listening _ => 6
  | .pulse => 6
  | .answering _ _ => 7
  | .stuck => 8

/-- SSTAT's link state code: 9 while the controller dozes, whatever the activity (R25, R43, R136). -/
def State.linkCode (s : State) : BitVec 4 :=
  if s.doze.state = .dozing then 9 else s.link.act.code

/-! ## Configuration registers -/

/-- IDENT (R169). -/
def Ident.word (i : Ident) : Word :=
  i.lease ++ 0#6 ++ bit i.repeatEn ++ bit i.claimEn ++ 0#3 ++ i.aliasId ++ 0#3 ++ i.primary

def Ident.ofWord (w : Word) : Ident where
  primary := w.extractLsb' 0 5
  aliasId := w.extractLsb' 8 5
  claimEn := w.getLsbD 16
  repeatEn := w.getLsbD 17
  lease := w.extractLsb' 24 8

/-- LINKCFG (R169). -/
def LinkCfg.word (c : LinkCfg) : Word :=
  0#8 ++ c.retryDelay ++ c.stuckLimit ++ c.faultLimit ++ 0#2 ++ c.rate

def LinkCfg.ofWord (w : Word) : LinkCfg where
  rate := w.extractLsb' 0 2
  faultLimit := w.extractLsb' 4 4
  stuckLimit := w.extractLsb' 8 8
  retryDelay := w.extractLsb' 16 8

/-- HOLDCFG (R170). -/
def HoldCfg.word (c : HoldCfg) : Word :=
  c.holdTime ++ 0#13 ++ bit c.noRelease ++ bit c.outEn ++ bit c.inEn

/-- HOLDCFG's fields from a word; REFRESH_MARGIN, which HOLDMRG holds, stays (R170). -/
def HoldCfg.ofWord (margin : BitVec 16) (w : Word) : HoldCfg where
  inEn := w.getLsbD 0
  outEn := w.getLsbD 1
  noRelease := w.getLsbD 2
  holdTime := w.extractLsb' 16 16
  refreshMargin := margin

/-- HMARKn, with the HOLDING bit of the Hold Unit (R122). -/
def HMark.word (m : HMark) (holding : Bool) : Word :=
  bit holding ++ 0#11 ++ m.classes ++ 0#2 ++ m.low ++ 0#2 ++ m.high

def HMark.ofWord (w : Word) : HMark where
  high := w.extractLsb' 0 6
  low := w.extractLsb' 8 6
  classes := w.extractLsb' 16 4

/-- ROUTECFG (R97). -/
def RouteCfg.word (c : RouteCfg) : Word :=
  0#26 ++ BitVec.ofNat 2 c.inbox.val ++ 0#2 ++ c.action.code

/-- DOZECFG (R170). -/
def DozeCfg.word (c : DozeCfg) : Word :=
  0#16 ++ c.dozeIdle ++ 0#4 ++ bit c.submitWake ++ bit c.rouseWake ++ bit c.answerInDoze ++ bit c.auto

def DozeCfg.ofWord (w : Word) : DozeCfg where
  auto := w.getLsbD 0
  answerInDoze := w.getLsbD 1
  rouseWake := w.getLsbD 2
  submitWake := w.getLsbD 3
  dozeIdle := w.extractLsb' 8 8

/-- The byte for inbox n of QUOTA or IBCOUNT: bits 8n + 7:8n (R101, R103). -/
def inboxByte (w : Word) (n : Fin 4) : Byte := w.extractLsb' (8 * n.val) 8

/-- Four inbox bytes as one word, inbox 0 lowest (R101, R103). -/
def inboxWord (f : Fin 4 → Byte) : Word := f 3 ++ f 2 ++ f 1 ++ f 0

/-! ## Table entries in TBLDATA (R99, R149, R59, R95) -/

/-- A routing table entry in TBLDATA0 (R99). -/
def Route.word (r : Route) : Word :=
  bit r.valid ++ 0#9 ++ r.action.code ++ 0#2 ++ BitVec.ofNat 2 r.inbox.val ++ r.classes ++ 0#1 ++ r.idset ++
    0#3 ++ r.source

/-- The routing table entry that TBLDATA0 carries; none where SOURCE is 31 or ACTION is 3 (R99). -/
def Route.ofWord (w : Word) : Option Route :=
  match RouteAction.ofCode (w.extractLsb' 20 2) with
  | none => none
  | some a =>
    if w.extractLsb' 0 5 = 31 then none
    else some {
      valid := w.getLsbD 31
      source := w.extractLsb' 0 5
      idset := w.extractLsb' 8 3
      classes := w.extractLsb' 12 4
      inbox := toClass (w.extractLsb' 16 2)
      action := a }

/-- A wake filter in TBLDATA0 (R149). -/
def WakeFilter.word (f : WakeFilter) : Word :=
  bit f.valid ++ 0#4 ++ f.idset ++ f.mask ++ f.pattern ++ 0#3 ++ f.source

/-- The wake filter that TBLDATA0 carries; none where SOURCE is 31 (R149). -/
def WakeFilter.ofWord (w : Word) : Option WakeFilter :=
  if w.extractLsb' 0 5 = 31 then none
  else some {
    valid := w.getLsbD 31
    source := w.extractLsb' 0 5
    idset := w.extractLsb' 24 3
    mask := w.extractLsb' 16 8
    pattern := w.extractLsb' 8 8 }

/-- A repeat record in TBLDATA0 and TBLDATA1 (R95). -/
def repeatWords : Option RepeatRecord → Word × Word
  | none => (0, 0)
  | some r => (1#1 ++ 0#21 ++ (match r.kind with | .put => 0#2 | .swap => 2#2) ++ 0#4 ++ r.tag, r.value)

/-! ## The staged descriptor STAGEH (R44, section 12.7) -/

/-- STAGEH as it is stored: bits 23:22 read 0 and are ignored on write. -/
def stagehMask (w : Word) : Word := w &&& 0xFF3FFFFF#32

def HostRegs.kind (h : HostRegs) : BitVec 4 := h.stageh.extractLsb' 0 4
def HostRegs.cls (h : HostRegs) : Fin 4 := toClass (h.stageh.extractLsb' 4 2)
def HostRegs.idsel (h : HostRegs) : Bool := h.stageh.getLsbD 6
def HostRegs.chain (h : HostRegs) : Bool := h.stageh.getLsbD 7
def HostRegs.dest (h : HostRegs) : BitVec 5 := h.stageh.extractLsb' 8 5
def HostRegs.budget (h : HostRegs) : BitVec 3 := h.stageh.extractLsb' 13 3
def HostRegs.len (h : HostRegs) : BitVec 6 := h.stageh.extractLsb' 16 6
def HostRegs.ceiling (h : HostRegs) : BitVec 8 := h.stageh.extractLsb' 24 8

end Sys2Proof.Machine
end

