-- ==== Sys2Proof/Machine/Line.lean ====
section
/-! DEFINITION. The Strand bus (chapter 1): bit time and pulse classes, the parcel on the line, its check and its
reception, form rules, the answer a call receives, and the acceptance of an answer (R33). -/

namespace Sys2Proof.Machine

/-! ## Bit time and pulse classes -/

/-- One bt in HCLK cycles (R24, R130). -/
def State.bt (s : State) : Nat := (s.div + 1) * 2 ^ s.cfg.linkcfg.rate.toNat

/-- q quarters of a bit time, rounded down to whole HCLK cycles (R130). -/
def quarters (bt q : Nat) : Nat := q * bt / 4

/-- The classes of a low pulse (R3). -/
inductive PulseClass where
  | data (b : Bool)
  | tail
  | mark
  deriving DecidableEq, Repr

/-- A low pulse is classified by its length alone (R3, R130). -/
def classify (bt cycles : Nat) : PulseClass :=
  if cycles < quarters bt 2 then .data true
  else if cycles < quarters bt 5 then .data false
  else if cycles < quarters bt 7 then .tail
  else .mark

/-- Silence: the line high for more than 1.5 bt inside a parcel (R3). -/
def isSilence (bt cycles : Nat) : Bool := quarters bt 6 < cycles

/-- The low time of a data cell (R2). -/
def dataLow (bt : Nat) (b : Bool) : Nat := if b then quarters bt 1 else quarters bt 3

/-- The low time of the tail cell (R2). -/
def tailLow (bt : Nat) : Nat := quarters bt 6

/-- The low time of the lead cell (R2). -/
def leadLow (bt : Nat) : Nat := quarters bt 8

/-- The length of the lead cell, from its falling edge to the next cell's (R2). -/
def leadLength (bt : Nat) : Nat := quarters bt 12

/-! ## Bits of a parcel (R7, R8) -/

/-- The bits of a field, most significant first (R7). -/
def fieldBits {w : Nat} (v : BitVec w) : List Bool := (List.range w).map fun i => v.getMsbD i

/-- The number that bits spell, most significant first. -/
def bitsNat (bs : List Bool) : Nat := bs.foldl (fun n b => 2 * n + b.toNat) 0

/-- The field of width `w` at position `at` of a bit sequence. -/
def fieldAt (bs : List Bool) (at' w : Nat) : BitVec w := BitVec.ofNat w (bitsNat ((bs.drop at').take w))

/-- One bit enters the check register, generator x^16 + x^12 + x^5 + 1 (R8). -/
def crcStep (r : BitVec 16) (b : Bool) : BitVec 16 :=
  if r.msb != b then (r <<< 1) ^^^ 0x1021#16 else r <<< 1

/-- CRC-16 over bits in transmission order, initialised to ones, not inverted (R8). -/
def crc (bs : List Bool) : BitVec 16 := bs.foldl crcStep 0xFFFF#16

/-- The header and payload bits of a parcel in transmission order (R7). -/
def Parcel.bodyBits (p : Parcel) : List Bool :=
  fieldBits p.cls ++ fieldBits p.dest ++ fieldBits p.kind ++ fieldBits p.source ++ fieldBits p.tag ++
    fieldBits (BitVec.ofNat 6 p.payload.length) ++ p.payload.flatMap fieldBits

/-- All bits of a parcel, its check last (R7, R8). -/
def Parcel.bits (p : Parcel) : List Bool := p.bodyBits ++ fieldBits (crc p.bodyBits)

/-- The arbitration key (R9). -/
def Parcel.key (p : Parcel) : Nat :=
  bitsNat (fieldBits p.cls ++ fieldBits p.dest ++ fieldBits p.kind ++ fieldBits p.source)

/-- The number of bits of a parcel (R7). -/
def Parcel.bitCount (p : Parcel) : Nat := 42 + 8 * p.payload.length

/-- The line while a parcel is sent alone, from the end of the low of its lead mark to the end of its tail mark
(R2). -/
def Parcel.wire (bt : Nat) (p : Parcel) : List LineItem :=
  .high bt :: (p.bits.flatMap fun b => [.low (dataLow bt b), .high (bt - dataLow bt b)]) ++ [.low (tailLow bt)]

/-- How long the sender of `p` drives the line low in cell k: the lead cell, one data cell for each bit, the tail cell
(R2). -/
def Parcel.cellLow (bt : Nat) (p : Parcel) (k : Nat) : Nat :=
  if k = 0 then leadLow bt
  else match p.bits[k - 1]? with
    | some b => dataLow bt b
    | none => if k = p.bitCount + 1 then tailLow bt else 0

/-- How long after the falling edge of cell k the next cell begins; no cell follows the tail cell (R2). -/
def Parcel.cellLength (bt : Nat) (p : Parcel) (k : Nat) : Option Nat :=
  if k = 0 then some (leadLength bt) else if k ≤ p.bitCount then some bt else none

/-- The payload length that a header of at least 26 bits carries (R7). -/
def lengthField (bs : List Bool) : Nat := bitsNat ((bs.drop 20).take 6)

/-- Whether the tail mark is due after these bits (R4, R7). -/
def tailDue (bs : List Bool) : Bool :=
  Config.headerBits ≤ bs.length && bs.length == 42 + 8 * lengthField bs

/-- The bytes that `n` groups of eight bits spell. -/
def bytesOf : Nat → List Bool → List Byte
  | 0, _ => []
  | n + 1, bs => fieldAt bs 0 8 :: bytesOf n (bs.drop 8)

/-- The parcel that a complete bit sequence spells (R7). -/
def Parcel.ofBits (bs : List Bool) : Parcel where
  cls := fieldAt bs 0 2
  dest := fieldAt bs 2 5
  kind := fieldAt bs 7 4
  source := fieldAt bs 11 5
  tag := fieldAt bs 16 4
  payload := bytesOf (lengthField bs) (bs.drop Config.headerBits)

/-! ## Form rules (R11, R17) -/

/-- Kinds 0..6 are call kinds (R11). -/
def isCallKind (k : BitVec 4) : Bool := k.toNat ≤ 6

/-- Kinds 8..10 are answer kinds (R11). -/
def isAnswerKind (k : BitVec 4) : Bool := k = Config.kindAck || k = Config.kindNak || k = Config.kindDefer

/-- The payload lengths permitted for a call kind (R17). -/
def lengthPermitted (k : BitVec 4) (len : Nat) : Bool :=
  if k = Config.kindPut then len ≤ 32
  else if k = Config.kindFetch then len == 2
  else if k = Config.kindSwap then len == 5
  else if k = Config.kindHold then len == 3
  else len == 0

/-- A parcel whose check is correct is malformed if it breaks one of the form rules of R17. -/
def Parcel.malformed (p : Parcel) : Bool :=
  !(isCallKind p.kind || isAnswerKind p.kind)
  || p.dest = 31
  || p.source = 0 || p.source = 31
  || (p.dest = 0 && !(p.kind = Config.kindPut || p.kind = Config.kindHold || p.kind = Config.kindRouse))
  || (p.kind = Config.kindHold && p.dest ≠ 0)
  || (isCallKind p.kind && !lengthPermitted p.kind p.payload.length)

/-! ## Reception (R4) -/

/-- The reception results of R4. -/
inductive RxResult where
  | markFault
  | overrun
  | overlength
  | badCheck
  | malformed (p : Parcel)
  | good (p : Parcel)
  deriving DecidableEq, Repr

/-- The result of a parcel that ended with its tail mark where it was due: check (R8), then form (R17). -/
def judge (bs : List Bool) : RxResult :=
  let body := bs.take (bs.length - 16)
  let p := Parcel.ofBits bs
  if fieldAt bs (bs.length - 16) 16 ≠ crc body then .badCheck
  else if p.malformed then .malformed p
  else .good p

/-- Reception of a parcel after its lead mark: the bits so far and the line that follows. The first event of R4's
table ends it; none where the line given does not end it. -/
def receiveFrom (bt : Nat) : List Bool → List LineItem → Option RxResult
  | _, [] => none
  | bs, .high c :: rest => if isSilence bt c then some .overrun else receiveFrom bt bs rest
  | bs, .low c :: rest =>
    match classify bt c with
    | .mark => some .markFault
    | .tail => if tailDue bs then some (judge bs) else some .overrun
    | .data b =>
      if tailDue bs then some .overrun
      else if bs.length + 1 = Config.headerBits ∧ Config.maxPayload < lengthField (bs ++ [b]) then some .overlength
      else receiveFrom bt (bs ++ [b]) rest

/-- The reception result of the line from the end of the lead mark on (R4). -/
def receive (bt : Nat) (items : List LineItem) : Option RxResult := receiveFrom bt [] items

/-! ## Answers (R12, R33) -/

/-- An answer to a call (R12). -/
def Parcel.answer (call : Parcel) (kind : BitVec 4) (payload : List Byte) : Parcel where
  cls := call.cls
  dest := call.source
  kind := kind
  source := call.dest
  tag := call.tag
  payload := payload

/-- Byte k of a payload; 0 beyond its end. -/
def Parcel.byte (p : Parcel) (k : Nat) : Byte := p.payload.getD k 0

/-- The payload length that fits an answer kind after this own call (R33, check 7). -/
def fittingLength (own : Parcel) (kind : BitVec 4) : Nat :=
  if kind = Config.kindAck then
    if own.kind = Config.kindFetch then 4 * (own.byte 1).toNat
    else if own.kind = Config.kindSwap then 4
    else if own.kind = Config.kindClaim then 1
    else 0
  else 1

/-- The verdict on a window parcel: accepted, or an answer fault with its subtype (R33). -/
inductive Verdict where
  | accepted (answer : Parcel)
  | fault (subtype : BitVec 4)
  deriving DecidableEq, Repr

/-- Checks 2 to 7 of R33 on a parcel with a correct check. -/
def acceptParcel (own p : Parcel) : Verdict :=
  if !isAnswerKind p.kind then .fault Config.faultIntrusion
  else if p.dest ≠ own.source then .fault Config.faultMisdirected
  else if p.source ≠ own.dest then .fault Config.faultWrongSource
  else if p.cls ≠ own.cls then .fault Config.faultWrongClass
  else if p.tag ≠ own.tag then .fault Config.faultStale
  else if p.payload.length ≠ fittingLength own p.kind then .fault Config.faultWrongForm
  else .accepted p

/-- The checks of R33 on the window parcel of the own call. -/
def accept (own : Parcel) : RxResult → Verdict
  | .markFault => .fault Config.faultTruncated
  | .overrun => .fault Config.faultTruncated
  | .overlength => .fault Config.faultTruncated
  | .badCheck => .fault Config.faultCorrupt
  | .malformed p => acceptParcel own p
  | .good p => acceptParcel own p

end Sys2Proof.Machine
end

