-- ==== Sys2Proof/Machine/Sline.lean ====
section
/-! DEFINITION. The pin SLINE: how the controller drives it cell by cell (R2), how its edges and its level are followed
from one HCLK edge to the next (R5, R27), and the stuck timer that they start and stop (R134). -/

namespace Sys2Proof.Machine

/-- Replace what is known of the pin. -/
def setLine (l : Line) (s : State) : State := { s with link := { s.link with line := l } }

/-! ## Driving (R2) -/

/-- The parcel that the controller is sending, from its lead mark to the end of its tail mark. -/
def State.sending (s : State) : Option Parcel :=
  match s.link.act with
  | .contending _ p => some p
  | .transmitting _ p => some p
  | .answering a true => some a
  | _ => none

/-- Whether the controller drives SLINE low: in the low part of the own cell in progress (R2). -/
def State.drives (s : State) : Bool :=
  s.sending.any fun p => s.link.line.cellAge < p.cellLow s.bt s.link.line.cell

/-- The falling edge of a cell that begins now, as observed on the line: HCLK cycles ago. It is the controller's own edge,
or that of another node which came within 0.5 bt before it (R2, R9; model's choice, log 34). -/
def State.edgeAge (s : State) : Nat := ((s.link.line.low.filter (· < quarters s.bt 2))).getD 0

/-- The own cell in progress after one more HCLK cycle: the next cell begins its length after this one's falling edge
as observed, and at no other moment (R2). -/
def advanceCell (s : State) : State :=
  match s.sending with
  | none => s
  | some p =>
    let l := s.link.line
    if (p.cellLength s.bt l.cell).any (· ≤ l.cellAge + 1) then
      setLine { l with cell := l.cell + 1, cellAge := s.edgeAge } s
    else setLine { l with cellAge := l.cellAge + 1 } s

/-! ## Level and stuck timer (R134) -/

/-- The stuck timer, set at a moment `age` HCLK cycles ago with the limit as it stands; none with STUCK_LIMIT 0
(R134). -/
def State.stuckTimer (s : State) (age : Nat) : Option Timer :=
  Timer.startAged s.div (s.cfg.linkcfg.stuckLimit.toNat * 100) age

/-- SLINE is low, since `age` HCLK cycles unless its falling edge is known already; that edge starts the stuck timer in
every state but OFF and STUCK (R134). -/
def startLow (age : Nat) (s : State) : State :=
  if s.link.line.low.isSome then s
  else setLine { s.link.line with
    low := some age
    stuck := if s.link.act = .off ∨ s.link.act = .stuck then none else s.stuckTimer age } s

/-- The own lead mark begins: at its falling edge, or timed from that of the pulse it joins (R2, R9, R27). -/
def leadBegins (s : State) : State :=
  startLow 0 (setLine { s.link.line with cell := 0, cellAge := s.link.line.low.getD 0 } s)

/-- A pulse of another node proves mark-class: it has been low for 1.75 bt (R3, R133). Where no sample told of its
falling edge, the limit of the stuck timer is the present one (log 5). -/
def markSeen (s : State) : State :=
  startLow (quarters s.bt 7) (setLine { s.link.line with pulled := true } s)

/-- SLINE rises: the stuck timer stops without expiry (R134). -/
def lineRises (s : State) : State :=
  setLine { s.link.line with pulled := false, low := none, stuck := none } s

/-- Whether SLINE is low since a falling edge of the present HCLK edge: another node pulls it low, or the own parcel on
the line began a cell. -/
def State.fellNow (s : State) : Bool := s.events.edgeFell && (s.link.line.pulled || s.sending.isSome)

/-- A row tells that SLINE is high (log 5). A falling edge of the same HCLK edge comes after what the row tells of, and
stands (R5, R27). -/
def rowHigh (s : State) : State := if s.fellNow then s else lineRises s

/-- The controller stops sending and releases SLINE, which rises unless another node pulls it low (R22, R159). -/
def releaseLine (s : State) : State :=
  if s.sending.isSome && !s.link.line.pulled then lineRises s else s

/-- Entry to SETTLING: the stuck timer starts if the line is low already (R134). -/
def enterSettling (s : State) : State :=
  { s with link := { s.link with
      act := .settling
      bus := .ignoring
      line := { s.link.line with stuck := if s.link.line.low.isSome then s.stuckTimer 0 else none } } }

/-! ## From one HCLK edge to the next -/

/-- What the other nodes do to SLINE at this edge (log 5). -/
def Line.sample (l : Line) : Line := { l with others := l.others.tail, pulled := l.others.headD false }

/-- A pulse while the bus was free: the bus is free no more (R5, R27). -/
def busTaken (s : State) : State :=
  if s.link.act = .idle ∧ s.link.bus = .free then { s with link := { s.link with bus := .busy } } else s

/-- SLINE is low and a decided answer has not begun: the answer is not sent, and the link listens to that pulse (R39). This
comes once the line event of the HCLK edge, which may be the start of the answer, is over. -/
def dropAnswer (s : State) : State :=
  match s.link.act with
  | .answering _ false => if s.link.line.low.isSome then setAct .pulse s else s
  | _ => s

/-- SLINE at one HCLK edge: the own cell advances, the other nodes are sampled, and the level follows from both. A
falling edge starts the stuck timer; a rising edge stops the timer; a pulse takes the free bus when it has lasted 0.5 bt
or has ended (R1, R2, R5, R27, R134). -/
def watchLine (s : State) : State :=
  let t := advanceCell s
  let u := setLine t.link.line.sample t
  let level := u.link.line.pulled || u.drives
  match u.link.line.low with
  | none => if level then markFall (startLow 0 u) else u
  | some age =>
    if !level then busTaken (lineRises u)
    else if quarters u.bt 2 ≤ age then busTaken u
    else u

/-- SLINE at one HCLK edge while RESET# is low: the controller drives and decodes nothing, and only the pin's level goes
on (R158). -/
def followPin (s : State) : State :=
  let l := s.link.line.sample
  setLine { l with low := if l.pulled then some ((l.low.map (· + 1)).getD 0) else none } s

end Sys2Proof.Machine
end

