-- ==== Sys2Proof/Machine/Hold.lean ====
section
/-! DEFINITION. The Hold Unit (chapter 7): incoming hold timers, inbox marks and the asserted set, the pending
sets, and what the reports of a HOLD parcel change. -/

namespace Sys2Proof.Machine

/-! ## Incoming holds (R119, R120) -/

/-- A class is held while its timer is not 0 (R120). -/
def State.held (s : State) (c : Fin 4) : Bool := s.hold.timers[c].isSome

/-- Set one incoming hold timer. -/
def setHoldTimer (c : Fin 4) (t : Option Timer) (s : State) : State :=
  { s with hold := { s.hold with timers := s.hold.timers.set c t } }

/-- A broadcast HOLD reaches the Hold Unit at step 2 of the Intake decision (R119): with IN_EN 1 it sets the
timers of the classes in its mask, a time of 0 ending them, and raises HOLD_IN. -/
def applyHold (p : Parcel) (s : State) : State :=
  if s.cfg.holdcfg.inEn then
    let quanta := (p.byte 1 ++ p.byte 2).toNat
    let t := Timer.start s.div (quanta * s.quantum)
    raise .holdIn { s with hold := { s.hold with
      timers := Vector.ofFn fun c : Fin 4 => if (p.byte 0).getLsbD c then t else s.hold.timers[c] } }
  else s

/-! ## Inbox marks and the asserted set (R122, R123) -/

/-- The low mark in force: LOW, or HIGH − 1 where LOW is not below HIGH (R122). -/
def HMark.effectiveLow (m : HMark) : Nat :=
  if m.high.toNat ≤ m.low.toNat then m.high.toNat - 1 else m.low.toNat

/-- The hold state of an inbox at an evaluation with this occupancy (R122). -/
def HMark.evaluate (m : HMark) (holding : Bool) (occupancy : Nat) : Bool :=
  if holding then !(occupancy ≤ m.effectiveLow) else m.high.toNat ≤ occupancy

/-- The union of the CLASSES of every inbox in HOLDING (R122). -/
def State.wantedClasses (s : State) : BitVec 4 :=
  (List.finRange 4).foldl (fun m n => if s.hold.holding[n] then m ||| s.cfg.hmark[n].classes else m) 0

/-- The asserted set is recomputed, and the pending sets follow the classes that join and leave it; when it becomes
empty the refresh timer stops (R122, R123). -/
def updateAsserted (s : State) : State :=
  let now := s.wantedClasses
  let join := now &&& ~~~s.hold.asserted
  let leave := s.hold.asserted &&& ~~~now
  { s with hold := { s.hold with
      asserted := now
      pendAssert := (s.hold.pendAssert ||| join) &&& ~~~leave
      pendRelease :=
        if s.cfg.holdcfg.noRelease then s.hold.pendRelease &&& ~~~join
        else (s.hold.pendRelease &&& ~~~join) ||| leave
      refresh := if now = 0 ∧ s.hold.asserted ≠ 0 then none else s.hold.refresh } }

/-- Re-evaluate one inbox against its marks while OUT_EN is 1 (R122). -/
def evalInbox (n : Fin 4) (s : State) : State :=
  if s.cfg.holdcfg.outEn then
    updateAsserted { s with hold := { s.hold with
      holding := s.hold.holding.set n
        (s.cfg.hmark[n].evaluate s.hold.holding[n] s.intake.inboxes[n].length) } }
  else s

/-! ## HOLD candidates and parcels (R123, R124, R127) -/

/-- Some HOLD request is pending (R143, R144). -/
def State.holdPending (s : State) : Bool :=
  s.hold.pendAssert ≠ 0 || s.hold.pendRelease ≠ 0 || s.hold.manual.isSome

/-- The first HOLD candidate in the order of R49. -/
def State.holdCandidate (s : State) : Option HoldKind :=
  if s.hold.pendAssert ≠ 0 then some .assertion
  else if s.hold.pendRelease ≠ 0 then some .release
  else if s.hold.manual.isSome then some .manual
  else none

/-- The hold time that an assertion carries: HOLD_TIME, 0 treated as 1 (R118, R124). -/
def HoldCfg.assertTime (c : HoldCfg) : BitVec 16 := if c.holdTime = 0 then 1 else c.holdTime

/-- The mask and time of a HOLD parcel, from the state when its contention begins (R124, R127). -/
def State.holdRequest (s : State) : HoldKind → BitVec 4 × BitVec 16
  | .assertion => (s.hold.asserted, s.cfg.holdcfg.assertTime)
  | .release => (s.hold.pendRelease, 0)
  | .manual => s.hold.manual.getD (0, 0)

/-- The HOLD parcel: class 0, destination 0, tag 0, source PRIMARY (R124). -/
def State.holdParcel (s : State) (k : HoldKind) : Parcel :=
  let r := s.holdRequest k
  { cls := 0, dest := 0, kind := Config.kindHold, source := s.cfg.ident.primary, tag := 0,
    payload := [0#4 ++ r.1, r.2.extractLsb' 8 8, r.2.extractLsb' 0 8] }

/-- The running time of the refresh timer in quanta (R125). -/
def HoldCfg.refreshQuanta (c : HoldCfg) : Nat :=
  let d := c.assertTime.toNat - c.refreshMargin.toNat
  if d < 1 then 1 else d

/-- A HOLD parcel was sent cleanly: the classes of its mask leave the pending set it served, an assertion starts
the refresh timer, a manual request is cleared, and HOLD_OUT is raised (R124, R125, R127). -/
def holdSent (k : HoldKind) (p : Parcel) (s : State) : State :=
  let mask : BitVec 4 := (p.byte 0).extractLsb' 0 4
  raise .holdOut <| match k with
    | .assertion => { s with hold := { s.hold with
        pendAssert := s.hold.pendAssert &&& ~~~mask
        refresh := Timer.start s.div (s.cfg.holdcfg.refreshQuanta * s.quantum) } }
    | .release => { s with hold := { s.hold with pendRelease := s.hold.pendRelease &&& ~~~mask } }
    | .manual => { s with hold := { s.hold with manual := none } }

/-- The refresh timer expires: every class of the asserted set is pending assertion again, and the timer stops
until the assertion is sent (R125). No class of the pending release set is in the asserted set. -/
def refreshExpires (s : State) : State :=
  { s with hold := { s.hold with refresh := none, pendAssert := s.hold.pendAssert ||| s.hold.asserted } }

end Sys2Proof.Machine
end

