-- ==== Sys2Proof/Machine/Session.lean ====
section
/-! DEFINITION. The Session Unit (chapter 4): the Session Stack with its mirrors, the session gate, and the Claim
Register with the responder lease. -/

namespace Sys2Proof.Machine

/-! ## Caller side (R70 to R75) -/

/-- Replace the Session Stack. -/
def setStack (st : List SessEntry) (s : State) : State := { s with sess := { s.sess with stack := st } }

/-- The mirror of a lease L not 0, set to end L − 1 ms after own call end; none if that end is not later than now
(R72, R73). -/
def State.mirrorFor (s : State) (lease : BitVec 8) : Option Timer :=
  Timer.startAged s.div ((lease.toNat - 1) * 1000) (s.link.callAge.getD 0)

/-- A CLAIM that ended ACKED pushes an entry (R72). -/
def pushSession (node identity : BitVec 5) (lease : BitVec 8) (s : State) : State :=
  let mirror := if lease = 0 then none else s.mirrorFor lease
  let lapsed := lease ≠ 0 && mirror.isNone
  raiseIf lapsed .leaseLapsed
    (setStack ({ node, identity, lease, mirror, lapsed } :: s.sess.stack) s)

/-- The top entry leaves the stack; its mirror stops and raises nothing (R73, R74, R75). -/
def popSession (s : State) : State := setStack s.sess.stack.tail s

/-- Whether an accepted ACK to the own call `p` restarts this entry's mirror (R73). -/
def SessEntry.renewedBy (e : SessEntry) (p : Parcel) : Bool :=
  e.node = p.dest && e.identity = p.source && !e.lapsed && e.lease ≠ 0

/-- An accepted ACK to an own unicast call restarts the mirrors it renews; an end that is not later than now makes
the entry lapse and raises LEASE_LAPSED (R73). -/
def restartMirrors (p : Parcel) (s : State) : State :=
  raiseIf (s.sess.stack.any fun e => e.renewedBy p && (s.mirrorFor e.lease).isNone) .leaseLapsed
    (setStack (s.sess.stack.map fun e =>
      if e.renewedBy p then
        { e with mirror := s.mirrorFor e.lease, lapsed := (s.mirrorFor e.lease).isNone }
      else e) s)

/-- The entry at position `i` of the stack (0 is the top). -/
def State.entryAt (s : State) (i : Nat) : Option SessEntry := s.sess.stack[i]?

/-- The position from the top of entry k counted from the bottom as in SESSVIEWk, k from 1 (R76). -/
def State.positionFromBottom (s : State) (k : Nat) : Nat := s.sess.stack.length - k

/-- The entry that SESSVIEWk shows (R76). -/
def State.sessEntry (s : State) (k : Nat) : Option SessEntry :=
  if 1 ≤ k ∧ k ≤ s.sess.stack.length then s.entryAt (s.positionFromBottom k) else none

/-- The mirror of entry k reaches its end: the entry lapses and stays on the stack (R73). -/
def mirrorExpires (k : Nat) (s : State) : State :=
  raise .leaseLapsed (setStack (s.sess.stack.modify (s.positionFromBottom k) fun e =>
    { e with mirror := none, lapsed := true }) s)

/-! ## Responder side (R77 to R83) -/

/-- The lease timer is set to end IDENT.LEASE ms from now, or stops if that is 0 (R81). -/
def restartLease (s : State) : State :=
  { s with sess := { s.sess with
      leaseTimer := Timer.start s.div (s.cfg.ident.lease.toNat * 1000) } }

/-- A claim is granted where there was no holder (R78). -/
def takeClaim (source : BitVec 5) (s : State) : State :=
  raise .claimTaken (restartLease { s with sess := { s.sess with holder := some source } })

/-- The claim ends: no holder, the lease stopped, the cause noted, CLAIM_ENDED raised (R79, R82, R83). -/
def endClaim (cause : EndCause) (s : State) : State :=
  raise .claimEnded { s with sess := { s.sess with holder := none, leaseTimer := none, lastEnd := cause } }

end Sys2Proof.Machine
end

