-- ==== Sys2Proof/Machine/Doze.lean ====
section
/-! DEFINITION. The Doze Unit (chapter 9): entering doze, waking, the idle conditions of automatic doze and the
wake filters. -/

namespace Sys2Proof.Machine

/-- The wake causes with their bits in WAKE_CAUSE (R146). -/
inductive WakeCause where
  | host | rouse | filter | submit
  deriving DecidableEq, Repr

/-- The bit of a cause as a set (R146). -/
def WakeCause.mask : WakeCause → BitVec 4
  | .host => 1
  | .rouse => 2
  | .filter => 4
  | .submit => 8

/-- Change the doze state. -/
def setDoze (d : DozeState) (s : State) : State := { s with doze := { s.doze with state := d } }

/-- Add a cause to WAKE_CAUSE (R146). -/
def addCause (c : WakeCause) (s : State) : State :=
  { s with doze := { s.doze with causes := s.doze.causes ||| c.mask } }

/-- A wake from DOZING: AWAKE, the cause noted, WOKEN raised. The link takes the state of its activity, which is
kept as it is (R43, R146). -/
def wakeUp (c : WakeCause) (s : State) : State := raise .woken (addCause c (setDoze .awake s))

/-- A wake decided by a line event is noted for the accesses of the same edge (R146, R147). -/
def wakeByLine (c : WakeCause) (s : State) : State :=
  let t := wakeUp c s
  { t with events := { t.events with edgeWoken := true } }

/-- PENDING becomes DOZING once the link is IDLE and no HOLD request is pending: WAKE_CAUSE and the filter index are
cleared, the idle timer stops, DOZE_ENTERED is raised (R143). -/
def enterDoze (s : State) : State :=
  if s.doze.state = .pending ∧ s.link.act = .idle ∧ s.holdPending = false then
    raise .dozeEntered { s with doze := { state := .dozing, idle := none, causes := 0, filter := 0 } }
  else s

/-- The idle conditions, with AUTO 1 (R144). -/
def State.idleConditions (s : State) : Bool :=
  s.cfg.dozecfg.auto && s.doze.state = .awake && s.link.act = .idle &&
    s.calls.slots.toList.all (fun x => !x.open) && !s.holdPending

/-- The doze idle timer after an event: started when the idle conditions hold and it does not run, stopped when one
of them is false (R144). -/
def updateIdle (s : State) : State :=
  { s with doze := { s.doze with
      idle := if s.idleConditions then
          s.doze.idle <|> Timer.start s.div (s.cfg.dozecfg.dozeIdle.toNat * 1000)
        else none } }

/-! ## Wake filters (R149) -/

/-- Whether a filter's mask and pattern match the message: its byte 0 in every bit of MASK, or no byte at all while
MASK is 0 (R149). -/
def WakeFilter.matchesBody (f : WakeFilter) : List Byte → Bool
  | [] => f.mask = 0
  | b :: _ => b &&& f.mask = f.pattern &&& f.mask

/-- Whether a filter matches a PUT with this identity hit (R149). -/
def WakeFilter.matches (f : WakeFilter) (hit : IdHit) (p : Parcel) : Bool :=
  f.valid && (f.source = 0 || f.source = p.source) && f.idset.getLsbD hit.bit && f.matchesBody p.payload

/-- The lowest-numbered wake filter that matches a PUT (R149). -/
def State.matchingFilter (s : State) (hit : IdHit) (p : Parcel) : Option (Fin 4) :=
  (List.finRange 4).find? fun i => s.cfg.filters[i].matches hit p

/-- A ROUSE is handed to the Doze Unit: with ROUSE_WAKE 1 it wakes a dozing controller and cancels a pending doze
(R89, R146). -/
def dozeRouse (s : State) : State :=
  if s.cfg.dozecfg.rouseWake then
    match s.doze.state with
    | .dozing => wakeByLine .rouse s
    | .pending => setDoze .awake s
    | .awake => s
  else s

end Sys2Proof.Machine
end

