-- ==== Sys2Proof/Machine/Calls.lean ====
section
/-! DEFINITION. The Call Engine (chapter 3): outcomes and completion records, chains, attempts and their reports,
eligibility, start checks and selection. -/

namespace Sys2Proof.Machine

/-! ## Outcomes (R60, R61, R68, R69) -/

/-- ACKED and SENT are the successful outcomes (R60). -/
def CallOutcome.successful (o : CallOutcome) : Bool := o = .acked || o = .sent

/-- The next tag of a destination: 0 to 1, n to n + 1, 15 to 1 (R18, R56). -/
def nextTag (t : BitVec 4) : BitVec 4 := if t = 15 then 1 else t + 1

/-- The tag table entry of a destination advances (R56). -/
def advanceTag (d : BitVec 5) (s : State) : State :=
  if h : 1 ≤ d.toNat ∧ d.toNat < 31 then
    { s with calls := { s.calls with tags := s.calls.tags.set d.toNat (nextTag s.calls.tags[d.toNat]) } }
  else s

/-- Step 1 of R60: the slot is DONE with its outcome, leaves its class queue, and has no cancellation pending; the
backoff timer of an ACTIVE call's class stops. -/
def closeSlot (n : SlotId) (o : CallOutcome) (s : State) : State :=
  let x := s.calls.slots[n]
  { s with calls := { s.calls with
      slots := s.calls.slots.set n { x with state := .done, outcome := some o, cancelPending := false }
      queues := s.calls.queues.set x.cls (s.calls.queues[x.cls].erase n)
      backoff := if x.state = .active then s.calls.backoff.set x.cls none else s.calls.backoff } }

/-- Step 2 of R60: a unicast call with a tag in use advances the tag table (R56). -/
def closeTag (x : Slot) (s : State) : State := if x.tag.isSome then advanceTag x.dest s else s

/-- Step 3 of R60: a CLAIM that ended ACKED pushes an entry (R72); a RELEASE that ended ACKED, or REFUSED with
NOT_HOLDER, pops one (R74); the holder of the session gate releases it (R71). `source` is the identity that the
call carried. -/
def closeSession (n : SlotId) (x : Slot) (o : CallOutcome) (source : BitVec 5) (s : State) : State :=
  let s1 :=
    if x.kind = Config.kindClaim ∧ o = .acked then pushSession x.dest source (x.answer.headD 0) s
    else if x.kind = Config.kindRelease ∧
        (o = .acked ∨ (o = .refused ∧ x.reason = some Config.reasonNotHolder)) then popSession s
    else s
  if s1.sess.gate = some n then { s1 with sess := { s1.sess with gate := none } } else s1

/-- The completion record of a slot, copied when its outcome is decided (R61). -/
def Slot.record (x : Slot) (n : SlotId) (o : CallOutcome) (sequence : BitVec 8) : Completion where
  slot := n
  outcome := o
  attempts := x.attempts
  losses := x.losses
  reason := x.reason
  answerLen := x.answer.length
  sequence := sequence

/-- Step 4 of R60: the completion record joins the tail of the Completion Queue (R61). -/
def appendRecord (n : SlotId) (x : Slot) (o : CallOutcome) (s : State) : State :=
  { s with calls := { s.calls with
      cq := s.calls.cq ++ [x.record n o s.calls.seq]
      seq := s.calls.seq + 1 } }

/-- Step 5 of R60 for the chain-successor pointer: a successful chained call names the call behind it; otherwise
the pointer that names this call becomes none (R68). -/
def closePointer (n : SlotId) (x : Slot) (o : CallOutcome) (after : Option SlotId) (s : State) : State :=
  { s with calls := { s.calls with successor :=
      if x.chain ∧ o.successful ∧ after.isSome then after
      else if s.calls.successor = some n then none else s.calls.successor } }

/-- The five steps of R60 for one call, without the calls of a broken chain. -/
def closeCall (n : SlotId) (o : CallOutcome) (source : BitVec 5) (s : State) : State :=
  let x := s.calls.slots[n]
  let after := behind n s.calls.queues[x.cls]
  closePointer n x o after (appendRecord n x o (closeSession n x o source (closeTag x (closeSlot n o s))))

/-- Whether this outcome of the call breaks the chain behind it (R69). -/
def Slot.breaks (x : Slot) (o : CallOutcome) : Bool := x.chain && !o.successful && o ≠ .flushed

/-- A final outcome with the chain it breaks: each broken call follows by the same steps (R60, R69). `fuel` bounds
the calls completed; 24 slots never need more. -/
def closeChain : Nat → SlotId → CallOutcome → BitVec 5 → State → State
  | 0, _, _, _, s => s
  | fuel + 1, n, o, source, s =>
    let x := s.calls.slots[n]
    let s1 := closeCall n o source s
    if x.breaks o then
      match behind n s.calls.queues[x.cls] with
      | some m => closeChain fuel m .chainBroken 0 s1
      | none => s1
    else s1

/-- A call's final outcome is decided (R60). -/
def decideOutcome (n : SlotId) (o : CallOutcome) (source : BitVec 5) (s : State) : State :=
  closeChain Config.slotCount n o source s

/-! ## The identity a call sends (R16, R51, R74) -/

/-- The identity that IDSEL names (R51). -/
def Ident.named (i : Ident) (idsel : Bool) : BitVec 5 := if idsel then i.aliasId else i.primary

/-- The identity a call will send: the top entry's for a RELEASE (R74), and PRIMARY or ALIAS by IDSEL for any other call,
at every selection (R51). A call that is sent again keeps its IDSEL, and with it its source as long as IDENT is not
rewritten in between (R16, log 28). -/
def State.identityOf (s : State) (x : Slot) : BitVec 5 :=
  if x.kind = Config.kindRelease then (s.sess.stack.head?.map (·.identity)).getD 0
  else s.cfg.ident.named x.idsel

/-! ## Reports of the Link Engine (R29, R52 to R55, R66) -/

/-- The current call becomes none: its report sequence has ended (R49); by LINK_RESTART too (model's choice, log 31). -/
def endCurrent (s : State) : State :=
  { s with calls := { s.calls with current := none }, link := { s.link with callAge := none } }

/-- Report "contention lost" for the current call, which stays unchanged (R16, R52, R66). -/
def callLost (s : State) : State :=
  match s.calls.current with
  | none => s
  | some n =>
    let s1 := updSlot n (fun x => { x with losses := if x.losses < 255 then x.losses + 1 else 255 }) s
    let x := s1.calls.slots[n]
    let s2 := endCurrent s1
    if x.cancelPending then decideOutcome n .cancelled 0 s2
    else if x.ceiling ≠ 0 ∧ x.ceiling.toNat ≤ x.losses then decideOutcome n .starved 0 s2
    else s2

/-- Report "contention won" for the current call: attempts won rises, and a unicast call without a tag takes one
(R52, R57). -/
def callWon (s : State) : State :=
  match s.calls.current with
  | none => s
  | some n =>
    updSlot n (fun x => { x with
      attempts := x.attempts + 1
      tag := if x.dest = 0 then none else some (x.tag.getD (s.tagOf x.dest)) }) s

/-- Report "abandoned" before contention was won (R52, R66). -/
def callAbandoned (s : State) : State :=
  match s.calls.current with
  | none => s
  | some n =>
    let s1 := endCurrent s
    if s.calls.slots[n].cancelPending then decideOutcome n .cancelled 0 s1 else s1

/-- Report "abandoned" after contention was won: the attempt is withdrawn (R55, R66). -/
def callWithdrawn (s : State) : State :=
  match s.calls.current with
  | none => s
  | some n =>
    let s1 := endCurrent (updSlot n (fun x => { x with attempts := x.attempts - 1 }) s)
    if s.calls.slots[n].cancelPending then decideOutcome n .cancelled 0 s1 else s1

/-- What broke an own parcel (R29, R30). -/
inductive BrokenBy where
  | bitClash
  | markFault
  deriving DecidableEq, Repr

/-- The exchange results with which an attempt ends, with what is carried with each (R14, R29). -/
inductive ExchangeResult where
  | acked (payload : List Byte)
  | nak (reason : Byte)
  | deferred (reason : Byte)
  | noAnswer
  | answerFault (subtype : BitVec 4)
  | broken (by' : BrokenBy)
  | sent
  deriving DecidableEq, Repr

/-- The reason byte of a call reflects its most recent attempt end (R53). -/
def ExchangeResult.reason : ExchangeResult → Option Byte
  | .nak r => some r
  | .deferred r => some r
  | _ => none

/-- The outcome of a call that the result ends without a retry (R53). -/
def ExchangeResult.outcome : ExchangeResult → CallOutcome
  | .acked _ => .acked
  | .nak _ => .refused
  | .deferred _ => .deferred
  | .noAnswer => .noAnswer
  | .answerFault _ => .answerFault
  | .broken _ => .linkFault
  | .sent => .sent

/-- A failure is an end of no answer, answer fault, accepted DEFER or broken (R53). -/
def ExchangeResult.failure : ExchangeResult → Bool
  | .deferred _ | .noAnswer | .answerFault _ | .broken _ => true
  | .acked _ | .nak _ | .sent => false

/-- The class backoff timer starts for RETRY_DELAY × 100 µs; with 0 it does not run (R54). -/
def startBackoff (c : Fin 4) (s : State) : State :=
  { s with calls := { s.calls with
      backoff := s.calls.backoff.set c (Timer.start s.div (s.cfg.linkcfg.retryDelay.toNat * 100)) } }

/-- The answer data that a result leaves in the slot: an accepted ACK's payload (R53). -/
def ExchangeResult.answerOr (r : ExchangeResult) (old : List Byte) : List Byte :=
  match r with
  | .acked payload => payload
  | _ => old

/-- The attempt of the current call, sent as `own`, ends with an exchange result (R53, R54, R66). An accepted ACK to
a unicast call first restarts the mirrors it renews (R73). -/
def attemptEnd (own : Parcel) (r : ExchangeResult) (s : State) : State :=
  match s.calls.current with
  | none => s
  | some n =>
    let s1 := match r with
      | .acked _ => restartMirrors own s
      | _ => s
    let s2 := updSlot n (fun x => { x with reason := r.reason, answer := r.answerOr x.answer }) s1
    let x := s2.calls.slots[n]
    let s3 := { s2 with calls := { s2.calls with current := none } }
    let s4 :=
      if !r.failure then decideOutcome n r.outcome own.source s3
      else if x.cancelPending then decideOutcome n .cancelled own.source s3
      else if x.attempts ≤ x.budget.toNat then startBackoff x.cls s3
      else decideOutcome n r.outcome own.source s3
    { s4 with link := { s4.link with callAge := none } }

/-! ## Eligibility and start checks (R50, R51) -/

/-- Whether another call to the same destination holds a tag in use and lacks a final outcome (R50, condition 7). -/
def State.interlocked (s : State) (n : SlotId) : Bool :=
  let d := s.calls.slots[n].dest
  (List.finRange Config.slotCount).any fun m =>
    m ≠ n && s.calls.slots[m].open && s.calls.slots[m].dest = d && s.calls.slots[m].tag.isSome

/-- Whether the session gate is open to this slot (R71). -/
def State.gateOpenTo (s : State) (n : SlotId) : Bool := s.sess.gate = none || s.sess.gate = some n

/-- The conditions of R50 on a slot that is the head of its class queue. -/
def State.eligible (s : State) (n : SlotId) : Bool :=
  let x := s.calls.slots[n]
  s.calls.queues[x.cls].head? = some n
    && s.linkEn
    && !s.link.quarantine
    && s.doze.state = .awake
    && !s.held x.cls
    && s.calls.backoff[x.cls].isNone
    && (!(x.kind = Config.kindClaim || x.kind = Config.kindRelease) || s.gateOpenTo n)
    && (x.dest = 0 || x.tag.isSome || !s.interlocked n)

/-- The start checks of R51, in order; the outcome of the first that fails. -/
def State.startCheck (s : State) (n : SlotId) : Option CallOutcome :=
  let x := s.calls.slots[n]
  let first : Bool := x.state = .queued
  if first ∧ x.kind = Config.kindRelease ∧ s.sess.stack.head?.map (·.node) ≠ some x.dest then some .orderFault
  else if !s.cfg.ident.owns (s.identityOf x) ∨ s.cfg.ident.owns x.dest then some .badIdentity
  else if first ∧ x.kind = Config.kindClaim ∧ s.sess.stack.any (·.node = x.dest) then some .duplicateClaim
  else if first ∧ x.kind = Config.kindClaim ∧ Config.stackLimit ≤ s.sess.stack.length then some .stackFull
  else none

/-- The outcomes of start checks that raise SESSION_FAULT (R51). -/
def CallOutcome.sessionFault (o : CallOutcome) : Bool :=
  o = .orderFault || o = .duplicateClaim || o = .stackFull

/-- A start check completes the call (R51). -/
def failStart (n : SlotId) (o : CallOutcome) (s : State) : State :=
  raiseIf o.sessionFault .sessionFault (decideOutcome n o 0 s)

/-! ## Selection (R49, R52) -/

/-- The parcel of a call (R7, R16, R44, R51); a call without a tag in use shows tag 0 until contention is won
(R57). -/
def State.callParcel (s : State) (n : SlotId) : Parcel :=
  let x := s.calls.slots[n]
  { cls := BitVec.ofNat 2 x.cls.val, dest := x.dest, kind := x.kind, source := s.identityOf x,
    tag := x.tag.getD 0, payload := x.payload }

/-- The Link Engine begins a lead mark and goes to CONTENDING (R27). -/
def beginContention (o : Owner) (p : Parcel) (s : State) : State :=
  leadBegins { s with link := { s.link with act := .contending o p, bus := .busy } }

/-- The lead mark of the current call begins: a QUEUED call becomes ACTIVE, and a CLAIM or RELEASE takes the session gate
(R52, R71). -/
def startCall (n : SlotId) (s : State) : State :=
  let x := s.calls.slots[n]
  let p := s.callParcel n
  let s1 := updSlot n (fun x => { x with state := .active }) s
  let s2 := { s1 with
    calls := { s1.calls with current := some n }
    sess := { s1.sess with gate :=
      if x.kind = Config.kindClaim ∨ x.kind = Config.kindRelease then some n else s1.sess.gate } }
  beginContention .call p s2

/-- The first class queue, by class number, whose head is eligible (R49, candidate 5). -/
def State.queueCandidate (s : State) : Option SlotId :=
  classes.findSome? fun c => s.calls.queues[c].head?.filter s.eligible

/-- Candidates 4 and 5 of R49: the eligible chain successor, else an eligible queue head. -/
def State.callCandidate (s : State) : Option SlotId :=
  (s.calls.successor.filter s.eligible) <|> s.queueCandidate

/-- A selection: HOLD candidates first, then calls; a call that a start check completes is passed over within the same
event (R49, R51), and the candidates are looked at afresh from the first (model's choice, log 32). Each turn of the loop
completes a call, so `fuel` above the number of slots is enough. -/
def selectLoop : Nat → State → State
  | 0, s => s
  | fuel + 1, s =>
    match s.holdCandidate with
    | some k => beginContention (.hold k) (s.holdParcel k) s
    | none =>
      match s.callCandidate with
      | none => s
      | some n =>
        match s.startCheck n with
        | some o => selectLoop fuel (failStart n o s)
        | none => startCall n s

/-- While the Link Engine is IDLE with the bus free and the controller does not doze, a selection is made within
every event (R27, R43, R132). -/
def select (s : State) : State :=
  if s.link.act = .idle ∧ s.link.bus = .free ∧ s.doze.state ≠ .dozing then selectLoop (Config.slotCount + 1) s
  else s

end Sys2Proof.Machine
end

