-- ==== Sys2Proof/Machine/Board.lean ====
section
/-! DEFINITION. The Notice Board (chapter 6): the host view, FETCH and SWAP service, and what the range commands do
to an entry. -/

namespace Sys2Proof.Machine

/-- The host view of an entry: the staged value while staged, else the committed value (R107). -/
def BoardEntry.view (e : BoardEntry) : Word := if e.isStaged then e.staged else e.committed

/-- A host write of BOARDn stages its word (R107). -/
def BoardEntry.stage (w : Word) (e : BoardEntry) : BoardEntry := { e with staged := w, isStaged := true }

/-- Staged and remote-modified: an ordinary PUBLISH skips the entry (R109, R114). -/
def BoardEntry.conflict (e : BoardEntry) : Bool := e.isStaged && e.modified

/-- Staged and not remote-modified: an ordinary PUBLISH publishes the entry (R114). -/
def BoardEntry.publishable (e : BoardEntry) : Bool := e.isStaged && !e.modified

/-- PUBLISH on one entry (R114). -/
def BoardEntry.publish (e : BoardEntry) : BoardEntry :=
  if e.publishable then { e with committed := e.staged, isStaged := false } else e

/-- PUBLISH_FORCE on one entry (R115). -/
def BoardEntry.force (e : BoardEntry) : BoardEntry :=
  if e.isStaged then { e with committed := e.staged, isStaged := false, modified := false } else e

/-- WITHDRAW on one entry (R116). -/
def BoardEntry.withdraw (e : BoardEntry) : BoardEntry := { e with isStaged := false }

/-- ABSORB on one entry (R117), and SOFT_RESET's effect on it (R106). -/
def BoardEntry.absorb (e : BoardEntry) : BoardEntry := { e with isStaged := false, modified := false }

/-- A SWAP served with ACK on one entry (R111). -/
def BoardEntry.swap (w : Word) (e : BoardEntry) : BoardEntry := { e with committed := w, modified := true }

/-- Whether an entry lies in the range FIRST to FIRST + COUNT − 1 (R113). -/
def inRange (first count : Nat) (i : Fin Config.boardSize) : Bool := first ≤ i.val && i.val < first + count

/-- Treat every entry of a range (R113). -/
def mapRange (first count : Nat) (f : BoardEntry → BoardEntry) (b : Board) : Board :=
  Vector.ofFn fun i => if inRange first count i then f b[i] else b[i]

/-- The number of entries of a range with a property (R114 to R116). -/
def countRange (first count : Nat) (p : BoardEntry → Bool) (b : Board) : Nat :=
  (List.finRange Config.boardSize).countP fun i => inRange first count i && p b[i]

/-- The committed values of a range, each most significant byte first (R110). -/
def fetchBytes (start count : Nat) (b : Board) : List Byte :=
  (List.finRange Config.boardSize).flatMap fun i => if inRange start count i then wordBytes b[i].committed else []

/-- An answer's kind and payload, as Intake chooses it (R12). -/
structure Reply where
  kind : BitVec 4
  payload : List Byte
  deriving DecidableEq, Repr

def Reply.ack (payload : List Byte) : Reply := { kind := Config.kindAck, payload }
def Reply.nak (reason : Byte) : Reply := { kind := Config.kindNak, payload := [reason] }
def Reply.defer (reason : Byte) : Reply := { kind := Config.kindDefer, payload := [reason] }

/-- A FETCH is served from the committed values (R110). -/
def serveFetch (p : Parcel) (s : State) : Reply :=
  let start := (p.byte 0).toNat
  let count := (p.byte 1).toNat
  if count = 0 ∨ Config.maxFetch < count ∨ Config.boardSize < start + count then .nak Config.reasonRange
  else if 0 < countRange start count (fun e => !e.remoteRead) s.board then .nak Config.reasonDenied
  else .ack (fetchBytes start count s.board)

/-- The new value that a SWAP carries (R11). -/
def Parcel.swapValue (p : Parcel) : Word := bytesWord (p.payload.drop 1) 0

/-- A SWAP is served (R111): the reply, the value replaced where it was carried out, and the state. -/
def serveSwap (p : Parcel) (s : State) : Reply × Option Word × State :=
  if h : (p.byte 0).toNat < Config.boardSize then
    let e := s.board[(p.byte 0).toNat]
    if e.remoteWrite then
      (.ack (wordBytes e.committed), some e.committed,
        raise .boardSwapped { s with board := s.board.set (p.byte 0).toNat (e.swap p.swapValue) })
    else (.nak Config.reasonDenied, none, s)
  else (.nak Config.reasonRange, none, s)

end Sys2Proof.Machine
end

