-- ==== Sys2Proof/Machine/Intake.lean ====
section
/-! DEFINITION. Intake (chapter 5): the ordered decision on each call addressed to this controller or broadcast,
routing, delivery and the repeat records. -/

namespace Sys2Proof.Machine

/-! ## Routing and delivery (R96 to R102) -/

/-- Whether a routing entry matches a PUT (R96). -/
def Route.matches (r : Route) (hit : IdHit) (p : Parcel) : Bool :=
  r.valid && (r.source = 0 || r.source = p.source) && r.idset.getLsbD hit.bit && r.classes.getLsbD p.cls.toNat

/-- The action and inbox for a PUT: the first matching entry, else the default route (R96, R97). -/
def State.route (s : State) (hit : IdHit) (p : Parcel) : RouteAction × Fin 4 :=
  match s.cfg.routes.toList.find? (·.matches hit p) with
  | some r => (r.action, r.inbox)
  | none => (s.cfg.routecfg.action, s.cfg.routecfg.inbox)

/-- The occupancy of an inbox (R101). -/
def State.occupancy (s : State) (n : Fin 4) : Nat := s.intake.inboxes[n].length

/-- Whether an inbox is full: its occupancy has reached its quota (R102). -/
def State.inboxFull (s : State) (n : Fin 4) : Bool := s.cfg.quota[n].toNat ≤ s.occupancy n

/-- A record is delivered: appended at the tail, the arrival counter advances, the marks are compared; the tag of every
broadcast record is 0 (R100, R103). -/
def deliver (n : Fin 4) (hit : IdHit) (p : Parcel) (s : State) : State :=
  let r : InRecord := { source := p.source, hit, cls := p.cls, tag := if hit = .broadcast then 0 else p.tag,
                        payload := p.payload, arrival := s.intake.arrival }
  evalInbox n { s with intake := { s.intake with
    inboxes := s.intake.inboxes.set n (s.intake.inboxes[n] ++ [r])
    arrival := s.intake.arrival + 1 } }

/-- The effect and the unicast answer of a PUT at step 8 (R98, R102). -/
def servePut (hit : IdHit) (p : Parcel) (s : State) : Reply × State :=
  match s.route hit p with
  | (.deliver, n) =>
    if s.inboxFull n then
      (.defer Config.reasonFull,
        count .inboxDrops (raise (if hit = .broadcast then .inboxDropped else .inboxDeferred) s))
    else (.ack [], deliver n hit p s)
  | (.discard, _) => (.ack [], s)
  | (.refuse, _) => (.nak Config.reasonRefused, s)

/-! ## Repeat records (R92 to R94) -/

/-- The record kind of a PUT or SWAP (R92). -/
def repeatKindOf (k : BitVec 4) : RepeatKind := if k = Config.kindSwap then .swap else .put

/-- The record that makes a unicast PUT or SWAP a repeat (R93). -/
def State.repeatRecord (s : State) (p : Parcel) : Option RepeatRecord :=
  if s.cfg.ident.repeatEn ∧ p.tag ≠ 0 ∧ (p.kind = Config.kindPut ∨ p.kind = Config.kindSwap) then
    (s.repeatOf p.source).filter fun r => r.tag = p.tag && r.kind = repeatKindOf p.kind
  else none

/-- The recorded answer (R93). -/
def RepeatRecord.reply (r : RepeatRecord) : Reply :=
  match r.kind with
  | .put => .ack []
  | .swap => .ack (wordBytes r.value)

/-- Set the record of a source (R94). -/
def setRepeat (src : BitVec 5) (r : Option RepeatRecord) (s : State) : State :=
  if h : 1 ≤ src.toNat ∧ src.toNat ≤ 30 then
    { s with intake := { s.intake with repeats := s.intake.repeats.set (src.toNat - 1) r } }
  else s

/-- What steps 3, 6, 7 and 8 hand to steps 9 and 10: the answer, whether the call reached step 7, whether it is a
repeat, and the value that a SWAP replaced. -/
structure Served where
  reply : Option Reply
  reached7 : Bool
  isRepeat : Bool
  old : Word
  deriving DecidableEq, Repr

/-- Whether the chosen answer is ACK. -/
def Served.acked (v : Served) : Bool := v.reply.any fun r => r.kind = Config.kindAck

/-- Step 9: an ACK to the holder restarts the responder lease (R81, R88). -/
def renewLease (p : Parcel) (v : Served) (s : State) : State :=
  if v.acked ∧ s.sess.holder = some p.source then restartLease s else s

/-- Step 10: the record of the call's source is changed (R94). -/
def updateRecord (p : Parcel) (v : Served) (s : State) : State :=
  if !s.cfg.ident.repeatEn || v.isRepeat then s
  else if p.tag = 0 then
    if v.reached7 || v.acked then setRepeat p.source none s else s
  else if v.acked ∧ p.kind = Config.kindPut then
    setRepeat p.source (some { tag := p.tag, kind := .put, value := 0 }) s
  else if v.acked ∧ p.kind = Config.kindSwap then
    setRepeat p.source (some { tag := p.tag, kind := .swap, value := v.old }) s
  else s

/-- Steps 9 and 10 on a unicast call, and the answer that goes to the Link Engine (R88). -/
def finishCall (p : Parcel) (v : Served) (s : State) : Option Reply × State :=
  (v.reply, updateRecord p v (renewLease p v s))

/-! ## The steps (R88) -/

/-- Steps 7 and 8 on a unicast PUT, FETCH or SWAP (R93, R98, R110, R111). -/
def serveUnicast (hit : IdHit) (p : Parcel) (s : State) : Option Reply × State :=
  match s.repeatRecord p with
  | some r =>
    finishCall p { reply := some r.reply, reached7 := true, isRepeat := true, old := r.value }
      (count .repeats (raise .repeatSeen s))
  | none =>
    if p.kind = Config.kindPut then
      let out := servePut hit p s
      finishCall p { reply := some out.1, reached7 := true, isRepeat := false, old := 0 } out.2
    else if p.kind = Config.kindFetch then
      finishCall p { reply := some (serveFetch p s), reached7 := true, isRepeat := false, old := 0 } s
    else
      let out := serveSwap p s
      finishCall p { reply := some out.1, reached7 := true, isRepeat := false, old := out.2.1.getD 0 } out.2.2

/-- A CLAIM at step 6 (R78). -/
def serveClaim (p : Parcel) (s : State) : Reply × State :=
  if !s.cfg.ident.claimEn then (.nak Config.reasonUnsupported, s)
  else match s.sess.holder with
    | none => (.ack [s.cfg.ident.lease], takeClaim p.source s)
    | some h =>
      if h = p.source then (.ack [s.cfg.ident.lease], restartLease s) else (.defer Config.reasonHeld, s)

/-- A RELEASE at step 6 (R79). -/
def serveRelease (p : Parcel) (s : State) : Reply × State :=
  if s.sess.holder = some p.source then (.ack [], endClaim .released s) else (.nak Config.reasonNotHolder, s)

/-- Whether the claim step defers a unicast PUT, FETCH or SWAP (R80). -/
def State.heldByOther (s : State) (p : Parcel) : Bool :=
  s.sess.holder.isSome && s.sess.holder ≠ some p.source

/-- Steps 6 to 10 (R88). A broadcast PUT meets only step 8, and is never answered. -/
def intakeFromClaim (hit : IdHit) (p : Parcel) (s : State) : Option Reply × State :=
  if hit = .broadcast then (none, (servePut hit p s).2)
  else if p.kind = Config.kindClaim then
    let out := serveClaim p s
    finishCall p { reply := some out.1, reached7 := false, isRepeat := false, old := 0 } out.2
  else if p.kind = Config.kindRelease then
    let out := serveRelease p s
    finishCall p { reply := some out.1, reached7 := false, isRepeat := false, old := 0 } out.2
  else if s.heldByOther p then (some (.defer Config.reasonHeld), s)
  else serveUnicast hit p s

/-- Step 3: a ROUSE, first handed to the Doze Unit (R89). -/
def intakeRouse (hit : IdHit) (p : Parcel) (s : State) : Option Reply × State :=
  let s1 := dozeRouse s
  if hit = .broadcast then (none, s1)
  else
    let reply :=
      if !s1.sctl.intakeEn then none
      else if s1.doze.state = .dozing then some (Reply.defer Config.reasonDozing)
      else some (Reply.ack [])
    finishCall p { reply, reached7 := false, isRepeat := false, old := 0 } s1

/-- A wake by a filter, with its index in DOZESTAT (R146). -/
def wakeByFilter (i : Fin 4) (s : State) : State :=
  let t := wakeByLine .filter s
  { t with doze := { t.doze with filter := BitVec.ofNat 2 i.val } }

/-- Step 5 while DOZING, and the steps after it for a PUT that a filter lets through (R91). -/
def intakeDozing (hit : IdHit) (p : Parcel) (s : State) : Option Reply × State :=
  match (if p.kind = Config.kindPut then s.matchingFilter hit p else none) with
  | some i => intakeFromClaim hit p (wakeByFilter i s)
  | none =>
    if hit ≠ .broadcast ∧ s.cfg.dozecfg.answerInDoze then (some (.defer Config.reasonDozing), s) else (none, s)

/-- The Intake decision on a good call that is addressed to an own identity or broadcast (R87, R88). A HOLD is honoured
whatever its class and tag (model's choice, log 27). -/
def intake (p : Parcel) (s : State) : Option Reply × State :=
  let hit := s.cfg.ident.hit p.dest
  if p.kind = Config.kindHold then (none, applyHold p s)
  else if p.kind = Config.kindRouse then intakeRouse hit p s
  else if !s.sctl.intakeEn then (none, s)
  else if s.doze.state = .dozing then intakeDozing hit p s
  else intakeFromClaim hit p s

end Sys2Proof.Machine
end

