-- ==== Sys2Proof/Machine/Link.lean ====
section
/-! DEFINITION. The Link Engine (chapter 2) and the Line Guard (chapter 8): reports to the owners of parcels,
abandonment, consecutive faults and quarantine, and what becomes of a received parcel. -/

namespace Sys2Proof.Machine

/-! ## Faults on own transmissions (R41, R42) -/

/-- The consecutive fault counter gains 1, and is compared with FAULT_LIMIT (R41, R42), at a fault that finds it at 15 too
(model's choice, log 29). -/
def countFault (s : State) : State :=
  let n := if s.link.faults = 15 then s.link.faults else s.link.faults + 1
  let enters : Bool := s.cfg.linkcfg.faultLimit ≠ 0 && s.cfg.linkcfg.faultLimit.toNat ≤ n.toNat && !s.link.quarantine
  raiseIf enters .quarantine
    { s with link := { s.link with faults := n, quarantine := s.link.quarantine || enters } }

/-- An own parcel was sent cleanly through its tail mark: TX_PARCELS gains 1 and the consecutive fault counter is
zeroed (R30, R40, R41). -/
def sentOk (s : State) : State :=
  let t := count .txParcels s
  { t with link := { t.link with faults := 0 } }

/-- Quarantine ends and the consecutive fault counter is zeroed (R138, R139). -/
def clearQuarantine (s : State) : State := { s with link := { s.link with faults := 0, quarantine := false } }

/-! ## Reports to the owner (R29) -/

/-- "Contention lost": a call counts it; a HOLD request stays pending (R52, R124). -/
def reportLost (o : Owner) (s : State) : State :=
  match o with
  | .call => callLost s
  | .hold _ => s

/-- "Abandoned" in contention (R52, R124). -/
def reportAbandoned (o : Owner) (s : State) : State :=
  match o with
  | .call => callAbandoned s
  | .hold _ => s

/-- "Abandoned" after contention was won (R55, R124). -/
def reportWithdrawn (o : Owner) (s : State) : State :=
  match o with
  | .call => callWithdrawn s
  | .hold _ => s

/-- "Broken" by a bit clash or a mark fault (R29, R30, R53, R124). -/
def reportBroken (o : Owner) (p : Parcel) (b : BrokenBy) (s : State) : State :=
  match o with
  | .call => attemptEnd p (.broken b) s
  | .hold _ => s

/-- "Sent" for a broadcast call or a HOLD parcel (R53, R124, R127). -/
def reportSent (o : Owner) (p : Parcel) (s : State) : State :=
  match o with
  | .call => attemptEnd p .sent s
  | .hold k => holdSent k p s

/-- The Link Engine abandons its activity and releases SLINE; the owner of an own parcel learns of it, a received
parcel or an answer is dropped (R22, R135). Where the link goes next is the caller's. A call that it completes CANCELLED
shows in CQ_READY (R62, R66; for LINK_RESTART and LINK_DISABLE model's choice, log 33). -/
def abandon (s : State) : State :=
  match s.link.act with
  | .contending o _ => reportAbandoned o s
  | .transmitting o _ => reportWithdrawn o s
  | .awaiting _ => callWithdrawn s
  | .listening (some _) => callWithdrawn s
  | _ => s

/-! ## Receiving (R33 to R38, R137) -/

/-- The counters of R36 for a reception result. -/
def countReception (r : RxResult) (s : State) : State :=
  match r with
  | .markFault => count .markFaults s
  | .overrun => count .malformed s
  | .overlength => count .malformed s
  | .badCheck => count .rxCheckErrors s
  | .malformed _ => count .malformed (count .rxParcels s)
  | .good _ => count .rxParcels s

/-- The exchange result of an accepted answer (R29, R34). -/
def answerResult (a : Parcel) : ExchangeResult :=
  if a.kind = Config.kindAck then .acked a.payload
  else if a.kind = Config.kindNak then .nak (a.byte 0)
  else .deferred (a.byte 0)

/-- The window parcel ends the attempt of the own call: accepted, or an answer fault with its subtype in LAST_FAULT
and event ANSWER_FAULT (R34, R35). -/
def endWindow (own : Parcel) (r : RxResult) (s : State) : State :=
  match accept own r with
  | .accepted a => attemptEnd own (answerResult a) s
  | .fault sub =>
    attemptEnd own (.answerFault sub)
      (raise .answerFault { s with link := { s.link with lastFault := sub } })

/-- What the Link Engine knows of the bus after a reception: it ignores every pulse until a full quiet gap after a
mark fault, an overrun or an overlength parcel (R4, R36, R137). -/
def RxResult.busAfter : RxResult → Bus
  | .markFault | .overrun | .overlength => .ignoring
  | .badCheck | .malformed _ | .good _ => .busy

/-- Whether a malformed parcel is a call broken in form only and addressed to an own identity (R17, R38). -/
def State.formOnly (s : State) (p : Parcel) : Bool :=
  isCallKind p.kind && s.cfg.ident.owns p.dest && p.dest ≠ 31 && p.source ≠ 0 && p.source ≠ 31

/-- Whether a call may be answered: the answer's destination is the source of the call (R12), and a node never sends a
parcel to one of its own numbers (R7). The decision on such a call stands all the same (log 30). -/
def State.answerable (s : State) (p : Parcel) : Bool := !s.cfg.ident.owns p.source

/-- The disposal of a received parcel by its result: the answer, if there is one, and the state (R36 to R38).
`window` says that it was the window parcel of an own attempt. No answer goes to one of the controller's own numbers
(R7). -/
def dispose (window : Bool) (r : RxResult) (s : State) : Option Parcel × State :=
  match r with
  | .malformed p =>
    if s.formOnly p && s.answerable p then (some (p.answer Config.kindNak [Config.reasonMalformed]), s) else (none, s)
  | .good p =>
    if isAnswerKind p.kind then
      (none, raiseIf (!window && s.cfg.ident.owns p.dest) .unsolicited s)
    else if p.dest = 0 ∨ s.cfg.ident.owns p.dest then
      let out := intake p s
      ((out.1.filter fun _ => s.answerable p).map fun a => p.answer a.kind a.payload, out.2)
    else (none, s)
  | _ => (none, s)

/-- SLINE after a reception has ended: low and timed by the Line Guard after a mark fault (R133, R134), high
otherwise. -/
def lineAfter (r : RxResult) (s : State) : State :=
  match r with
  | .markFault => markSeen s
  | _ => rowHigh s

/-- The reception of a parcel ends with a result: it is counted (R36), the attempt of a window parcel ends (R34),
the parcel is disposed of, and the Link Engine goes to ANSWERING with an answer or to IDLE without one. -/
def receptionEnds (window : Option Parcel) (r : RxResult) (s : State) : State :=
  let s1 := countReception r s
  let s2 := match window with
    | some own => endWindow own r s1
    | none => s1
  let out := dispose window.isSome r s2
  lineAfter r (match out.1 with
    | some a => { out.2 with link := { out.2.link with act := .answering a false, bus := .busy } }
    | none => toIdle r.busAfter out.2)

end Sys2Proof.Machine
end

