-- ==== Sys2Proof/Machine/EndOfEvent.lean ====
section
/-! DEFINITION. What every event ends with: a selection while the bus is free (R27), the doze entry test (R143), the
doze idle timer (R144) and INT# (R155), in that order. -/

namespace Sys2Proof.Machine

/-- The end of every event: selection (R27, R132), doze entry (R143), idle timer (R144), INT# (R155). -/
def endEvent (s : State) : State := updateInt (updateIdle (enterDoze (select s)))

end Sys2Proof.Machine
end

