-- ==== Sys2Proof/Machine/Edges.lean ====
section
/-! DEFINITION. The events of one HCLK edge in the order of R132: the line event first, then the expiries that are due,
then the host access; and what each expiry does (chapter 8). An expiry of a timer that does not run changes nothing
(log 4). -/

namespace Sys2Proof.Machine

/-- While RESET# is low nothing is decoded, no timer runs and every host write is ignored (R158). -/
def unlessReset (f : State → State) (s : State) : State := if s.inReset then s else f s

/-- The outcome of a command that is carried out: always a next state. -/
def done (s : State) : Host.Outcome State Fault Refusal := .next s

/-! ## What each expiry does -/

/-- An incoming hold timer reaches 0 (R120). -/
def onHoldExpiry (c : Fin 4) (s : State) : State := if s.held c then setHoldTimer c none s else s

/-- A class backoff timer expires and stops (R54). -/
def onBackoffExpiry (c : Fin 4) (s : State) : State :=
  { s with calls := { s.calls with backoff := s.calls.backoff.set c none } }

/-- The hold refresh timer expires (R125). -/
def onRefreshExpiry (s : State) : State := if s.hold.refresh.isSome then refreshExpires s else s

/-- The responder lease ends (R82). -/
def onLeaseExpiry (s : State) : State := if s.sess.leaseTimer.isSome then endClaim .expired s else s

/-- Whether the mirror of entry k runs (R73). -/
def State.mirrorOf (s : State) (k : Nat) : Option Timer := (s.sessEntry k).bind (·.mirror)

/-- The mirror of Session Stack entry k ends (R73). -/
def onMirrorExpiry (k : Nat) (s : State) : State := if (s.mirrorOf k).isSome then mirrorExpires k s else s

/-- The doze idle timer expires: doze becomes pending, and the end of the event enters it (R144). -/
def onDozeIdleExpiry (s : State) : State :=
  if s.doze.idle.isSome then { s with doze := { s.doze with state := .pending, idle := none } } else s

/-- Whether the stuck timer can expire: in every state but OFF and STUCK, when it runs, or when no sample has told of the
line since it was high and the limit is not 0 (R134, log 5). -/
def State.stuckCanExpire (s : State) : Bool :=
  s.link.act ≠ .off && s.link.act ≠ .stuck &&
    (s.link.line.stuck.isSome || (s.link.line.low.isNone && s.cfg.linkcfg.stuckLimit ≠ 0))

/-- The stuck timer expires: the activity is abandoned, the link goes to STUCK and LINE_STUCK is raised (R135). -/
def onStuckExpiry (s : State) : State :=
  if s.stuckCanExpire then
    let t := abandon s
    raise .lineStuck { t with link := { t.link with
      act := .stuck
      bus := .ignoring
      line := { t.link.line with pulled := true, low := some (t.link.line.low.getD 0), stuck := none } } }
  else s

/-! ## The expiries of an edge -/

/-- A timer expiry, as an event of its own (R132, orders 2 to 8). The line event of its edge is over: an answer that it has
not begun is dropped if SLINE is low (R39). -/
def timerEvent (f : State → State) (s : State) : State :=
  unlessReset (fun t => endEvent (f (markEdge (dropAnswer t)))) s

/-- The expiries of R132. -/
inductive Expiry where
  | hold (c : Fin 4)
  | backoff (c : Fin 4)
  | refresh
  | lease
  | mirror (k : Nat)
  | stuck
  | dozeIdle
  deriving DecidableEq, Repr

/-- The expiries in the order of R132. -/
def expiries : List Expiry :=
  classes.map .hold ++ classes.map .backoff ++ [.refresh, .lease] ++ [1, 2, 3, 4, 5, 6].map .mirror ++
    [.stuck, .dozeIdle]

/-- Whether a timer runs and has reached its end. -/
def isDue (t : Option Timer) : Bool := t.any Timer.due

/-- Whether an expiry is due on the present edge: its timer has reached its end, and the expiry can act. -/
def Expiry.due (s : State) : Expiry → Bool
  | .hold c => isDue s.hold.timers[c]
  | .backoff c => isDue s.calls.backoff[c]
  | .refresh => isDue s.hold.refresh
  | .lease => isDue s.sess.leaseTimer
  | .mirror k => isDue (s.mirrorOf k)
  | .stuck => isDue s.link.line.stuck && s.stuckCanExpire
  | .dozeIdle => isDue s.doze.idle

/-- What an expiry does. -/
def Expiry.effect : Expiry → State → State
  | .hold c => onHoldExpiry c
  | .backoff c => onBackoffExpiry c
  | .refresh => onRefreshExpiry
  | .lease => onLeaseExpiry
  | .mirror k => onMirrorExpiry k
  | .stuck => onStuckExpiry
  | .dozeIdle => onDozeIdleExpiry

/-- An expiry takes place if it is due at its turn. -/
def expire (s : State) (e : Expiry) : State := if e.due s then timerEvent e.effect s else s

/-- The line event of the present edge is over, and the expiries that are due on it take place, each seeing what those
before it left (R39, R132). -/
def expireDue (s : State) : State := expiries.foldl expire (dropAnswer s)

/-- Whether an expiry of the present edge is still to come. -/
def State.anyDue (s : State) : Bool := expiries.any (Expiry.due s)

/-! ## The events of an edge -/

/-- The edge of a line event: the present one if nothing has happened on it yet, since a line event is the first of its
edge; else a later one, with no cycle counted between them, so that what is due on the present edge comes before
(R132; model's choice, log 2). -/
def openEdge (s : State) : State := markEdge (if s.events.edgeBegun then clearEdge (expireDue s) else s)

/-- A line-derived event (R132, order 1). -/
def lineEvent (f : State → State) (s : State) : State := unlessReset (fun t => endEvent (f (openEdge t))) s

/-- A host access, the last of its HCLK edge: what is due on the edge comes before it (R132, order 9). -/
def hostEvent (f : State → State) (s : State) : State :=
  unlessReset (fun t => clearEdge (endEvent (f (expireDue t)))) s

end Sys2Proof.Machine
end

