-- ==== Sys2Proof/Machine/Views.lean ====
section
/-! DEFINITION. What a host read of each register returns (R164, sections 12.5 to 12.7): stored registers and the
views of R25, R35, R62, R64, R76, R84, R104, R109, R121, R150, R156 and R168. -/

namespace Sys2Proof.Machine

/-- Two of the 64 entry bits as the words of R108 and R109: bit k of word i stands for entry 32 i + k. -/
def boardBits (i : Fin 2) (f : BoardEntry → Bool) (b : Board) : Word :=
  BitVec.ofFnLE fun k : Fin 32 => f (b[32 * i.val + k.val]'(by have := i.isLt; have := k.isLt; change _ < 64; omega))

/-- SCTL (R167). -/
def State.sctlWord (s : State) : Word :=
  0#26 ++ bit s.sctl.rdclr ++ bit s.sctl.irqEn ++ 0#2 ++ bit s.sctl.intakeEn ++ bit s.linkEn

/-- The held classes (R121). -/
def State.heldSet (s : State) : BitVec 4 := BitVec.ofFnLE fun c : Fin 4 => s.held c

/-- SSTAT (R168). -/
def State.sstat (s : State) : Word :=
  s.hold.asserted ++ s.heldSet ++ 0#2 ++ bit s.sess.holder.isSome ++ BitVec.ofNat 3 s.sess.stack.length ++
    BitVec.ofNat 5 s.calls.cq.length ++ BitVec.ofNat 5 (s.slotsIn (· = .free)) ++ bit s.hold.manual.isSome ++
    s.doze.state.code ++ bit s.link.quarantine ++ s.linkCode

/-- LINKSTAT (R35). -/
def LinkEngine.linkstat (l : LinkEngine) : Word :=
  0#8 ++ l.conflicts ++ 0#4 ++ l.faults ++ 0#4 ++ l.lastFault

/-- CMDR (R165). -/
def Cmdr.word (c : Cmdr) : Word := c.code ++ 0#5 ++ c.result.code ++ c.value

/-- SLOTVIEW0 (section 12.7). -/
def Slot.view0 (x : Slot) : Word :=
  BitVec.ofNat 8 x.losses ++ 0#1 ++ x.len ++ x.dest ++ bit x.chain ++ bit x.idsel ++ BitVec.ofNat 2 x.cls.val ++
    x.kind ++ bit x.cancelPending ++ x.state.code

/-- DECIDED reads 1 in DONE and HARVESTED (section 12.7). -/
def Slot.decided (x : Slot) : Bool := x.state = .done || x.state = .harvested

/-- SLOTVIEW1 (section 12.7). -/
def Slot.view1 (x : Slot) : Word :=
  0#2 ++ BitVec.ofNat 6 x.answer.length ++ x.reason.getD 0 ++ x.tag.getD 0 ++ BitVec.ofNat 4 x.attempts ++ 0#1 ++
    bit x.reason.isSome ++ bit x.tag.isSome ++ bit x.decided ++
    (if x.decided then (x.outcome.map CallOutcome.code).getD 0 else 0)

/-- SLOTVIEW0..9 of the selected slot; every word reads 0 for a selection of 24..31 (R64). -/
def State.slotview (s : State) (i : Fin 10) : Word :=
  if h : s.host.slotsel.toNat < Config.slotCount then
    let x := s.calls.slots[s.host.slotsel.toNat]
    if i.val = 0 then x.view0 else if i.val = 1 then x.view1 else bytesWord x.answer (i.val - 2)
  else 0

/-- CQVIEW0 and CQVIEW1 of the head record; 0 while the Completion Queue is empty (R62, section 12.7). -/
def State.cqview (s : State) (i : Fin 2) : Word :=
  match s.calls.cq with
  | [] => 0
  | r :: _ =>
    if i.val = 0 then
      r.sequence ++ BitVec.ofNat 4 r.attempts ++ r.outcome.code ++ 0#3 ++ BitVec.ofNat 5 r.slot.val ++ 0#7 ++ 1#1
    else
      0#2 ++ BitVec.ofNat 6 r.answerLen ++ r.reason.getD 0 ++ 0#7 ++ bit r.reason.isSome ++ BitVec.ofNat 8 r.losses

/-- IBVIEW0..9 of the head record of the selected inbox (R104, section 12.7). -/
def State.ibview (s : State) (i : Fin 10) : Word :=
  match s.intake.inboxes[toClass s.host.ibsel] with
  | [] => if i.val = 0 then 1 else 0
  | r :: _ =>
    if i.val = 0 then
      0#4 ++ r.tag ++ 0#2 ++ r.cls ++ 0#2 ++ r.hit.code ++ 0#3 ++ r.source ++ BitVec.ofNat 6 r.payload.length ++ 0#2
    else if i.val = 1 then 0#16 ++ r.arrival
    else bytesWord r.payload (i.val - 2)

/-- IBCOUNT (R103). -/
def State.ibcount (s : State) : Word := inboxWord fun n => BitVec.ofNat 8 (s.occupancy n)

/-- The word of one Session Stack entry (R76). -/
def SessEntry.word (e : SessEntry) : Word :=
  BitVec.ofNat 8 ((e.mirror.map Timer.ms).getD 0) ++ e.lease ++ bit e.lapsed ++ 0#2 ++ e.identity ++ 0#3 ++ e.node

/-- SESSVIEW0..6 (R76). -/
def State.sessview (s : State) (i : Fin 7) : Word :=
  if i.val = 0 then
    0#11 ++ BitVec.ofNat 5 ((s.sess.gate.map Fin.val).getD 0) ++ 0#7 ++ bit s.sess.gate.isSome ++ 0#5 ++
      BitVec.ofNat 3 s.sess.stack.length
  else ((s.sessEntry i.val).map SessEntry.word).getD 0

/-- CLAIMVIEW (R84). -/
def SessionUnit.claimview (u : SessionUnit) : Word :=
  0#14 ++ u.lastEnd.code ++ BitVec.ofNat 8 ((u.leaseTimer.map Timer.ms).getD 0) ++
    bit (u.holder.isSome && u.leaseTimer.isNone) ++ 0#2 ++ u.holder.getD 0

/-- HOLDVIEWn (R121). -/
def State.holdview (s : State) (n : Fin 4) : Word :=
  0#2 ++ bit (s.hold.pendRelease.getLsbD n) ++ bit (s.hold.pendAssert.getLsbD n) ++ 0#4 ++
    BitVec.ofNat 24 ((s.hold.timers[n].map Timer.us).getD 0)

/-- DOZESTAT: the index reads 0 while the FILTER bit is 0 (R150). -/
def DozeUnit.dozestat (d : DozeUnit) : Word :=
  0#22 ++ (if d.causes.getLsbD 2 then d.filter else 0) ++ 0#4 ++ d.causes

/-- What a host read of a register returns, as the state stands (R164). The side effect of a read of EVST is
`evstRead`. -/
def State.readReg (s : State) : Reg → Word
  | .sctl => s.sctlWord
  | .sstat => s.sstat
  | .ident => s.cfg.ident.word
  | .linkcfg => s.cfg.linkcfg.word
  | .tickdiv => 0#22 ++ s.cfg.tickdiv
  | .cmdw => 0
  | .cmdr => s.host.cmdr.word
  | .evst => s.evst
  | .even => s.cfg.even
  | .linkstat => s.link.linkstat
  | .stageh => s.host.stageh
  | .stage i => s.host.stage[i]
  | .slotsel => 0#27 ++ s.host.slotsel
  | .slotview i => s.slotview i
  | .cqview i => s.cqview i
  | .ibsel => 0#30 ++ s.host.ibsel
  | .ibview i => s.ibview i
  | .ibcount => s.ibcount
  | .quota => inboxWord fun n => s.cfg.quota[n]
  | .holdcfg => s.cfg.holdcfg.word
  | .hmark n => s.cfg.hmark[n].word s.hold.holding[n]
  | .holdmrg => 0#16 ++ s.cfg.holdcfg.refreshMargin
  | .tblsel => 0#14 ++ s.host.tblTable ++ 0#8 ++ s.host.tblIndex
  | .tbldata i => if i.val = 0 then s.host.tbldata0 else s.host.tbldata1
  | .routecfg => s.cfg.routecfg.word
  | .dozecfg => s.cfg.dozecfg.word
  | .dozestat => s.doze.dozestat
  | .sessview i => s.sessview i
  | .claimview => s.sess.claimview
  | .cnt i => 0#16 ++ s.events.counters[i]
  | .holdview n => s.holdview n
  | .boardrd i => boardBits i (·.remoteRead) s.board
  | .boardwr i => boardBits i (·.remoteWrite) s.board
  | .boardstg i => boardBits i (·.isStaged) s.board
  | .boardmod i => boardBits i (·.modified) s.board
  | .board n => s.board[n].view

end Sys2Proof.Machine
end

