-- ==== Sys2Proof/Machine/Commands.lean ====
section
/-! DEFINITION. The Command Port (section 12.2) and the 22 commands with the undefined code: what each does to the
state, its result and value, and its meaning as a row of the table. -/

namespace Sys2Proof.Machine

/-- The result, the 16-bit value and the state that a command leaves (R165). -/
abbrev CmdOut := CmdResult × BitVec 16 × State

/-- A command that changes nothing; the value is 0 where its rule gives none (R165). -/
def refuse (r : CmdResult) (s : State) : CmdOut := (r, 0, s)

/-- A command that was carried out. -/
def okWith (v : Nat) (s : State) : CmdOut := (.ok, BitVec.ofNat 16 v, s)

/-- Steps 3 and 4 of R165: CMDR takes code, result and value, and a result other than OK raises CMD_ERROR. -/
def finishCommand (code : BitVec 8) (out : CmdOut) : State :=
  raiseIf (out.1 ≠ .ok) .cmdError
    { out.2.2 with host := { out.2.2.host with cmdr := { code, result := out.1, value := out.2.1 } } }

/-! ## Calls (chapter 3) -/

/-- The first check of R45 that the staged descriptor fails. -/
def State.submitCheck (s : State) : Option Nat :=
  let h := s.host
  let k := h.kind
  let i := s.cfg.ident
  if !(k = Config.kindPut || k = Config.kindFetch || k = Config.kindSwap || k = Config.kindClaim ||
      k = Config.kindRelease || k = Config.kindRouse) then some 1
  else if h.dest = 31 then some 2
  else if h.dest = 0 ∧ k ≠ Config.kindPut ∧ k ≠ Config.kindRouse then some 3
  else if !lengthPermitted k h.len.toNat then some 4
  else if k ≠ Config.kindRelease ∧ h.idsel ∧ i.aliasId = 0 then some 5
  else if i.owns h.dest then some 6
  else none

/-- The lowest-numbered FREE slot (R46). -/
def State.freeSlot (s : State) : Option SlotId :=
  (List.finRange Config.slotCount).find? fun n => s.calls.slots[n].state = .free

/-- The slot that SUBMIT fills from the staging registers (R46). -/
def HostRegs.descriptor (h : HostRegs) : Slot where
  state := .queued
  kind := h.kind
  cls := h.cls
  dest := h.dest
  idsel := h.idsel
  len := h.len
  budget := h.budget
  ceiling := h.ceiling
  chain := h.chain
  payload := h.stageBytes h.len.toNat

/-- An accepted SUBMIT takes a slot and joins the tail of its class queue (R46). -/
def enqueue (n : SlotId) (s : State) : State :=
  let c := s.host.cls
  { s with calls := { s.calls with
      slots := s.calls.slots.set n s.host.descriptor
      queues := s.calls.queues.set c (s.calls.queues[c] ++ [n]) } }

/-- An accepted SUBMIT wakes a dozing controller, or adds its cause on the edge of a line event that has just woken
it, while SUBMIT_WAKE is 1 (R46, R146). -/
def submitWake (edge : Edge) (s : State) : State :=
  if s.cfg.dozecfg.submitWake then
    if s.doze.state = .dozing then wakeUp .submit s
    else if edge = .shared ∧ s.events.edgeWoken ∧ s.doze.state = .awake then addCause .submit s
    else s
  else s

/-- SUBMIT (R45, R46). -/
def cmdSubmit (edge : Edge) (s : State) : CmdOut :=
  match s.submitCheck with
  | some k => (.badArgument, BitVec.ofNat 16 k, s)
  | none =>
    match s.freeSlot with
    | none => refuse .noResource s
    | some n => okWith n.val (submitWake edge (enqueue n s))

/-- The slot that an argument names (R63, R65). -/
def argSlot (arg : BitVec 24) : Option SlotId :=
  if h : (argLow arg).toNat < Config.slotCount then some ⟨(argLow arg).toNat, h⟩ else none

/-- The class or inbox that an argument names (R67, R105). -/
def argFour (arg : BitVec 24) : Option (Fin 4) :=
  if h : (argLow arg).toNat < 4 then some ⟨(argLow arg).toNat, h⟩ else none

/-- CANCEL (R65). -/
def cmdCancel (arg : BitVec 24) (s : State) : CmdOut :=
  match argSlot arg with
  | none => refuse .badArgument s
  | some n =>
    match s.calls.slots[n].state with
    | .queued => okWith 0 (decideOutcome n .cancelled 0 s)
    | .active =>
      if s.calls.current = some n then okWith 1 (updSlot n (fun x => { x with cancelPending := true }) s)
      else okWith 0 (decideOutcome n .cancelled 0 s)
    | _ => refuse .wrongState s

/-- RETIRE (R63). -/
def cmdRetire (arg : BitVec 24) (s : State) : CmdOut :=
  match argSlot arg with
  | none => refuse .badArgument s
  | some n =>
    if s.calls.slots[n].state = .harvested then okWith n.val (updSlot n (fun _ => {}) s)
    else refuse .wrongState s

/-- CQ_POP (R62). -/
def cmdCqPop (s : State) : CmdOut :=
  match s.calls.cq with
  | [] => refuse .empty s
  | r :: rest =>
    okWith r.slot.val (updSlot r.slot (fun x => { x with state := .harvested })
      { s with calls := { s.calls with cq := rest } })

/-- FLUSH_CLASS (R67): every QUEUED call of the queue ends FLUSHED, in queue order. -/
def cmdFlushClass (arg : BitVec 24) (s : State) : CmdOut :=
  match argFour arg with
  | none => refuse .badArgument s
  | some c =>
    let flushed := s.calls.queues[c].filter fun n => s.calls.slots[n].state = .queued
    okWith flushed.length (flushed.foldl (fun t n => decideOutcome n .flushed 0 t) s)

/-- Whether TAG_RESET of destination d (0 for all) is refused for the state of calls (R58). -/
def State.tagBusy (s : State) (d : BitVec 5) : Bool :=
  (s.calls.current.any fun n => d = 0 || s.calls.slots[n].dest = d) ||
    s.calls.slots.toList.any fun x => x.open && x.tag.isSome && (d = 0 || x.dest = d)

/-- TAG_RESET (R58). -/
def cmdTagReset (arg : BitVec 24) (s : State) : CmdOut :=
  if 31 ≤ (argLow arg).toNat then refuse .badArgument s
  else
    let d : BitVec 5 := (argLow arg).extractLsb' 0 5
    if s.tagBusy d then refuse .wrongState s
    else okWith 0 { s with calls := { s.calls with
      tags := Vector.ofFn fun i : Fin 31 => if d = 0 ∨ i.val = d.toNat then 0 else s.calls.tags[i] } }

/-! ## Inboxes (chapter 5) -/

/-- Replace the records of one inbox and compare its marks (R103). -/
def setInbox (n : Fin 4) (rs : List InRecord) (s : State) : State :=
  evalInbox n { s with intake := { s.intake with inboxes := s.intake.inboxes.set n rs } }

/-- INBOX_POP (R105). -/
def cmdInboxPop (arg : BitVec 24) (s : State) : CmdOut :=
  match argFour arg with
  | none => refuse .badArgument s
  | some n =>
    match s.intake.inboxes[n] with
    | [] => refuse .empty s
    | r :: rest => (.ok, r.arrival, setInbox n rest s)

/-- INBOX_FLUSH (R105). -/
def cmdInboxFlush (arg : BitVec 24) (s : State) : CmdOut :=
  match argFour arg with
  | none => refuse .badArgument s
  | some n => okWith (s.occupancy n) (setInbox n [] s)

/-! ## Tables (section 12.4) -/

/-- The table and index that a table command addresses (R166). -/
def State.tableAddress (s : State) (arg : BitVec 24) : BitVec 2 × Nat :=
  if argSel arg then (s.host.tblTable, s.host.tblIndex.toNat) else (argTable arg, (argLow arg).toNat)

/-- After an OK with SEL 1 the index in TBLSEL advances by 1 (R166). -/
def advanceSel (arg : BitVec 24) (s : State) : State :=
  if argSel arg then { s with host := { s.host with tblIndex := s.host.tblIndex + 1 } } else s

/-- The words of a table entry; none beyond the table (R59, R95, R99, R149, R166). -/
def State.tableEntry (s : State) (table : BitVec 2) (i : Nat) : Option (Word × Word) :=
  if table = 0 then s.cfg.routes[i]?.map fun r => (r.word, 0)
  else if table = 1 then s.cfg.filters[i]?.map fun f => (f.word, 0)
  else if table = 2 then s.calls.tags[i]?.map fun t => (0#28 ++ t, 0)
  else s.intake.repeats[i]?.map repeatWords

/-- TABLE_READ (R166). -/
def cmdTableRead (arg : BitVec 24) (s : State) : CmdOut :=
  match s.tableEntry (s.tableAddress arg).1 (s.tableAddress arg).2 with
  | none => refuse .badArgument s
  | some ws => okWith 0 (advanceSel arg { s with host := { s.host with tbldata0 := ws.1, tbldata1 := ws.2 } })

/-- The state with a table entry written from TBLDATA0; none where the write is refused (R99, R149, R166). -/
def State.writeEntry (s : State) (table : BitVec 2) (i : Nat) : Option State :=
  if table = 0 then
    if h : i < 16 then
      (Route.ofWord s.host.tbldata0).map fun r => { s with cfg := { s.cfg with routes := s.cfg.routes.set i r } }
    else none
  else if table = 1 then
    if h : i < 4 then
      (WakeFilter.ofWord s.host.tbldata0).map fun f =>
        { s with cfg := { s.cfg with filters := s.cfg.filters.set i f } }
    else none
  else none

/-- TABLE_WRITE (R166). -/
def cmdTableWrite (arg : BitVec 24) (s : State) : CmdOut :=
  match s.writeEntry (s.tableAddress arg).1 (s.tableAddress arg).2 with
  | none => refuse .badArgument s
  | some t => okWith 0 (advanceSel arg t)

/-! ## Board ranges (section 6.5) -/

/-- FIRST and COUNT of a valid range (R113). -/
def argRange (arg : BitVec 24) : Option (Nat × Nat) :=
  let first := (argLow arg).toNat
  let n := (argCount arg).toNat
  if n = 0 ∨ Config.boardSize < first + n then none else some (first, n)

/-- PUBLISH (R114). -/
def cmdPublish (arg : BitVec 24) (s : State) : CmdOut :=
  match argRange arg with
  | none => refuse .badArgument s
  | some (first, n) =>
    let published := countRange first n BoardEntry.publishable s.board
    let skipped := countRange first n BoardEntry.conflict s.board
    (.ok, BitVec.ofNat 8 skipped ++ BitVec.ofNat 8 published,
      raiseIf (skipped ≠ 0) .publishConflict { s with board := mapRange first n BoardEntry.publish s.board })

/-- PUBLISH_FORCE (R115). -/
def cmdPublishForce (arg : BitVec 24) (s : State) : CmdOut :=
  match argRange arg with
  | none => refuse .badArgument s
  | some (first, n) =>
    okWith (countRange first n (·.isStaged) s.board) { s with board := mapRange first n BoardEntry.force s.board }

/-- WITHDRAW (R116). -/
def cmdWithdraw (arg : BitVec 24) (s : State) : CmdOut :=
  match argRange arg with
  | none => refuse .badArgument s
  | some (first, n) =>
    okWith (countRange first n (·.isStaged) s.board)
      { s with board := mapRange first n BoardEntry.withdraw s.board }

/-- ABSORB (R117). -/
def cmdAbsorb (arg : BitVec 24) (s : State) : CmdOut :=
  match argRange arg with
  | none => refuse .badArgument s
  | some (first, n) => okWith 0 { s with board := mapRange first n BoardEntry.absorb s.board }

/-! ## Holds, sessions, doze, link and counters -/

/-- HOLD_SEND (R127). -/
def cmdHoldSend (arg : BitVec 24) (s : State) : CmdOut :=
  if !s.linkEn then refuse .disabled s
  else if s.hold.manual.isSome then refuse .wrongState s
  else if argMask arg = 0 then refuse .badArgument s
  else okWith 0 { s with hold := { s.hold with manual := some (argMask arg, argTime arg) } }

/-- SESSION_DROP (R75). -/
def cmdSessionDrop (s : State) : CmdOut :=
  if s.sess.gate.isSome then refuse .wrongState s
  else match s.sess.stack with
    | [] => refuse .empty s
    | e :: _ => okWith e.node.toNat (popSession s)

/-- BREAK_CLAIM (R83). -/
def cmdBreakClaim (s : State) : CmdOut :=
  match s.sess.holder with
  | none => refuse .empty s
  | some h => okWith h.toNat (endClaim .broken s)

/-- DOZE (R142): the entry test of R143 belongs to the command. -/
def cmdDoze (s : State) : CmdOut :=
  if !s.linkEn then refuse .disabled s
  else if s.doze.state ≠ .awake then refuse .wrongState s
  else
    let t := enterDoze (setDoze .pending s)
    okWith (if t.doze.state = .dozing then 1 else 0) t

/-- WAKE (R147). -/
def cmdWake (edge : Edge) (s : State) : CmdOut :=
  match s.doze.state with
  | .dozing => okWith 1 (wakeUp .host s)
  | .pending => okWith 0 (setDoze .awake s)
  | .awake =>
    if edge = .shared ∧ s.events.edgeWoken then okWith 1 (addCause .host s) else refuse .wrongState s

/-- LINK_RESTART: the activity is abandoned, quarantine ends, and the link settles; the stuck timer starts if the line is
low (R134, R138). A record of a call that the abandonment completes shows in CQ_READY (R62; model's choice, log 33). -/
def cmdLinkRestart (s : State) : CmdOut :=
  if !s.linkEn then refuse .disabled s
  else if s.doze.state = .dozing then refuse .wrongState s
  else
    okWith (if s.link.quarantine then 1 else 0) (enterSettling (clearQuarantine (abandon (releaseLine s))))

/-- QUARANTINE_CLEAR (R139). -/
def cmdQuarantineClear (s : State) : CmdOut :=
  if s.link.quarantine then okWith 0 (clearQuarantine s) else refuse .wrongState s

/-- COUNTERS_CLEAR (R157). -/
def cmdCountersClear (s : State) : CmdOut :=
  okWith 0 { s with events := { s.events with counters := Vector.replicate _ 0 } }

/-- A command by its code, as CMDW carries it: any code that section 12.3 does not name is BAD_CODE (R165). -/
def runCommand (code : BitVec 8) (arg : BitVec 24) (s : State) : CmdOut :=
  if code = 0x01 then cmdSubmit .own s
  else if code = 0x02 then cmdCancel arg s
  else if code = 0x03 then cmdRetire arg s
  else if code = 0x04 then cmdCqPop s
  else if code = 0x05 then cmdFlushClass arg s
  else if code = 0x06 then cmdTagReset arg s
  else if code = 0x08 then cmdInboxPop arg s
  else if code = 0x09 then cmdInboxFlush arg s
  else if code = 0x0C then cmdTableRead arg s
  else if code = 0x0D then cmdTableWrite arg s
  else if code = 0x10 then cmdPublish arg s
  else if code = 0x11 then cmdPublishForce arg s
  else if code = 0x12 then cmdWithdraw arg s
  else if code = 0x13 then cmdAbsorb arg s
  else if code = 0x18 then cmdHoldSend arg s
  else if code = 0x1C then cmdSessionDrop s
  else if code = 0x1D then cmdBreakClaim s
  else if code = 0x20 then cmdDoze s
  else if code = 0x21 then cmdWake .own s
  else if code = 0x24 then cmdLinkRestart s
  else if code = 0x25 then cmdQuarantineClear s
  else if code = 0x28 then cmdCountersClear s
  else refuse .badCode s

/-- A host write of CMDW (R165). -/
def writeCmdw (code : BitVec 8) (arg : BitVec 24) (s : State) : State :=
  finishCommand code (runCommand code arg s)

/-! ## Meanings -/

/-- A command event with its code (R165). -/
def commandEvent (code : BitVec 8) (f : State → CmdOut) (s : State) : Host.Outcome State Fault Refusal :=
  done (hostEvent (fun t => finishCommand code (f t)) s)

def execSubmit (edge : Edge) (s : State) : Host.Outcome State Fault Refusal := commandEvent 0x01 (cmdSubmit edge) s
def execCancel (arg : BitVec 24) (s : State) : Host.Outcome State Fault Refusal := commandEvent 0x02 (cmdCancel arg) s
def execRetire (arg : BitVec 24) (s : State) : Host.Outcome State Fault Refusal := commandEvent 0x03 (cmdRetire arg) s
def execCqPop (s : State) : Host.Outcome State Fault Refusal := commandEvent 0x04 cmdCqPop s
def execFlushClass (arg : BitVec 24) (s : State) : Host.Outcome State Fault Refusal :=
  commandEvent 0x05 (cmdFlushClass arg) s
def execTagReset (arg : BitVec 24) (s : State) : Host.Outcome State Fault Refusal :=
  commandEvent 0x06 (cmdTagReset arg) s
def execInboxPop (arg : BitVec 24) (s : State) : Host.Outcome State Fault Refusal :=
  commandEvent 0x08 (cmdInboxPop arg) s
def execInboxFlush (arg : BitVec 24) (s : State) : Host.Outcome State Fault Refusal :=
  commandEvent 0x09 (cmdInboxFlush arg) s
def execTableRead (arg : BitVec 24) (s : State) : Host.Outcome State Fault Refusal :=
  commandEvent 0x0C (cmdTableRead arg) s
def execTableWrite (arg : BitVec 24) (s : State) : Host.Outcome State Fault Refusal :=
  commandEvent 0x0D (cmdTableWrite arg) s
def execPublish (arg : BitVec 24) (s : State) : Host.Outcome State Fault Refusal := commandEvent 0x10 (cmdPublish arg) s
def execPublishForce (arg : BitVec 24) (s : State) : Host.Outcome State Fault Refusal :=
  commandEvent 0x11 (cmdPublishForce arg) s
def execWithdraw (arg : BitVec 24) (s : State) : Host.Outcome State Fault Refusal :=
  commandEvent 0x12 (cmdWithdraw arg) s
def execAbsorb (arg : BitVec 24) (s : State) : Host.Outcome State Fault Refusal := commandEvent 0x13 (cmdAbsorb arg) s
def execHoldSend (arg : BitVec 24) (s : State) : Host.Outcome State Fault Refusal :=
  commandEvent 0x18 (cmdHoldSend arg) s
def execSessionDrop (s : State) : Host.Outcome State Fault Refusal := commandEvent 0x1C cmdSessionDrop s
def execBreakClaim (s : State) : Host.Outcome State Fault Refusal := commandEvent 0x1D cmdBreakClaim s
def execDoze (s : State) : Host.Outcome State Fault Refusal := commandEvent 0x20 cmdDoze s
def execWake (edge : Edge) (s : State) : Host.Outcome State Fault Refusal := commandEvent 0x21 (cmdWake edge) s
def execLinkRestart (s : State) : Host.Outcome State Fault Refusal := commandEvent 0x24 cmdLinkRestart s
def execQuarantineClear (s : State) : Host.Outcome State Fault Refusal := commandEvent 0x25 cmdQuarantineClear s
def execCountersClear (s : State) : Host.Outcome State Fault Refusal := commandEvent 0x28 cmdCountersClear s

/-- A write of CMDW with this code and argument 0; for an undefined code only CMDR and CMD_ERROR change (R165). -/
def execBadCode (code : BitVec 8) (s : State) : Host.Outcome State Fault Refusal :=
  commandEvent code (runCommand code 0) s

end Sys2Proof.Machine
end

