-- ==== Sys2Proof/Machine/HostWrites.lean ====
section
/-! DEFINITION. Host accesses other than commands (R164): SCTL with enable, disable and SOFT_RESET, configuration
writes with their refusals (section 11.4), EVST, the board and every other register; and the two hardware resets. -/

namespace Sys2Proof.Machine

/-- A refused configuration write changes no field and raises CONFIG_REFUSED (section 11.4). -/
def configRefused (s : State) : State := raise .configRefused s

/-- Change the configuration. -/
def updCfg (f : Configuration → Configuration) (s : State) : State := { s with cfg := f s.cfg }

/-! ## SCTL (R167) -/

/-- The SCTL fields that every write without SOFT_RESET takes (R167). -/
def writeFields (f : SctlFields) (s : State) : State :=
  { s with sctl := { intakeEn := f.intakeEn, irqEn := f.irqEn, rdclr := f.rdclr } }

/-- A LINK_EN of 1: from OFF to SETTLING, refused while PRIMARY is 0; nothing while the link is enabled (R21). -/
def enableLink (s : State) : State :=
  if s.linkEn then s
  else if s.cfg.ident.primary = 0 then configRefused s
  else enterSettling s

/-- A LINK_EN of 0: the current activity is abandoned, the link goes to OFF and the Doze Unit to AWAKE; nothing
while the link is off (R23, R148). A record of a call that the abandonment completes shows in CQ_READY (R62; model's
choice, log 33). -/
def disableLink (s : State) : State :=
  if s.linkEn then
    let t := abandon (releaseLine s)
    setDoze .awake { t with link := { t.link with
      act := .off
      bus := .ignoring
      line := { t.link.line with stuck := none } } }
  else s

/-- What is left of the pin by a reset: the level, with the controller's own drive released (R158, R159). -/
def State.pinAfterReset (s : State) : Line :=
  let l := (releaseLine s).link.line
  { others := l.others, pulled := l.pulled, low := l.low }

/-- SOFT_RESET (R159, section 11.2): configuration, tables, selections, board values and attributes, IRQ_EN and
RDCLR are kept; all traffic state returns to its value after reset. -/
def softReset (s : State) : State :=
  { State.reset with
    pending := s.pending
    cfg := s.cfg
    sctl := { intakeEn := false, irqEn := s.sctl.irqEn, rdclr := s.sctl.rdclr }
    host := { s.host with cmdr := {} }
    link := { line := s.pinAfterReset }
    board := Vector.ofFn fun i => s.board[i].absorb }

/-- Power-on and RESET# return every piece of state to its value after reset; `low` says whether RESET# is still low
(R158). -/
def hardReset (low : Bool) (s : State) : State :=
  { State.reset with pending := s.pending, inReset := low, link := { line := s.pinAfterReset } }

/-- RESET# is asserted, or power comes up: it takes effect at once (R158). -/
def assertReset (s : State) : State := hardReset true s

/-- RESET# rises, as it takes effect at the first HCLK edge after it (R158, log 10). -/
def releaseReset (s : State) : State := hardReset false s

/-- A host write of SCTL (R159, R163, R167). -/
def writeSctl (w : Word) (s : State) : State :=
  if w.getLsbD 31 then softReset s
  else
    let t := writeFields (SctlFields.ofWord w) s
    if w.getLsbD 0 then enableLink t else disableLink t

/-! ## Configuration writes -/

/-- IDENT (R85): only while the link is off and with valid identities; a change of REPEAT_EN empties every repeat
record. -/
def writeIdent (w : Word) (s : State) : State :=
  let i := Ident.ofWord w
  if s.linkEn ∨ (i.primary ≠ 0 ∧ i.aliasId = i.primary) ∨ i.primary = 31 ∨ i.aliasId = 31 then configRefused s
  else
    let t := updCfg (fun c => { c with ident := i }) s
    if i.repeatEn = s.cfg.ident.repeatEn then t
    else { t with intake := { t.intake with repeats := Vector.replicate _ none } }

/-- LINKCFG (R24): refused in full while the link is enabled if RATE would change. -/
def writeLinkcfg (w : Word) (s : State) : State :=
  let c := LinkCfg.ofWord w
  if s.linkEn ∧ c.rate ≠ s.cfg.linkcfg.rate then configRefused s
  else updCfg (fun d => { d with linkcfg := c }) s

/-- TICKDIV (R130): refused while the link is enabled, and below 7. -/
def writeTickdiv (w : Word) (s : State) : State :=
  let v : BitVec 10 := w.extractLsb' 0 10
  if s.linkEn ∨ v.toNat < 7 then configRefused s else updCfg (fun d => { d with tickdiv := v }) s

/-- QUOTA (R101): only with intake off, a sum of at most 40, and no quota below its inbox's occupancy. -/
def writeQuota (w : Word) (s : State) : State :=
  let q := fun n : Fin 4 => inboxByte w n
  if !s.sctl.intakeEn ∧ (q 0).toNat + (q 1).toNat + (q 2).toNat + (q 3).toNat ≤ Config.poolSize ∧
      (List.finRange 4).all (fun n => s.occupancy n ≤ (q n).toNat) then
    updCfg (fun d => { d with quota := Vector.ofFn q }) s
  else configRefused s

/-- ROUTECFG (R97): refused in full when DEF_ACTION is 3. -/
def writeRoutecfg (w : Word) (s : State) : State :=
  match RouteAction.ofCode (w.extractLsb' 0 2) with
  | none => configRefused s
  | some a => updCfg (fun d => { d with routecfg := { action := a, inbox := toClass (w.extractLsb' 4 2) } }) s

/-- HMARKn (R122): refused for marks outside 1..40; otherwise the inbox is evaluated afresh. -/
def writeHmark (n : Fin 4) (w : Word) (s : State) : State :=
  let m := HMark.ofWord w
  if m.high = 0 ∨ 40 < m.high.toNat ∨ m.low = 0 ∨ 40 < m.low.toNat then configRefused s
  else evalInbox n (updCfg (fun d => { d with hmark := d.hmark.set n m }) s)

/-- A write of IN_EN from 1 to 0 sets all four incoming hold timers to 0 (R120). -/
def applyInEn (was : Bool) (s : State) : State :=
  if was && !s.cfg.holdcfg.inEn then { s with hold := { s.hold with timers := Vector.replicate _ none } } else s

/-- A write of OUT_EN from 1 to 0 clears every inbox and the asserted set, whose classes become pending release
unless NO_RELEASE is 1, and stops the refresh timer; from 0 to 1 it evaluates all four inboxes (R122, R126). -/
def applyOutEn (was : Bool) (s : State) : State :=
  match was, s.cfg.holdcfg.outEn with
  | true, false =>
    let t := updateAsserted { s with hold := { s.hold with holding := Vector.replicate _ false } }
    { t with hold := { t.hold with pendAssert := 0, refresh := none } }
  | false, true => evalInbox 3 (evalInbox 2 (evalInbox 1 (evalInbox 0 s)))
  | _, _ => s

/-- HOLDCFG or HOLDMRG (R118, R120, R126, R170): never refused. -/
def writeHoldcfg (r : HoldReg) (w : Word) (s : State) : State :=
  match r with
  | .holdmrg => updCfg (fun d => { d with holdcfg := { d.holdcfg with refreshMargin := w.extractLsb' 0 16 } }) s
  | .holdcfg =>
    applyOutEn s.cfg.holdcfg.outEn (applyInEn s.cfg.holdcfg.inEn
      (updCfg (fun d => { d with holdcfg := HoldCfg.ofWord d.holdcfg.refreshMargin w }) s))

/-- DOZECFG (R141): refused in full when DOZE_IDLE is 0. Clearing AUTO stops the idle timer at the end of the
event. -/
def writeDozecfg (w : Word) (s : State) : State :=
  let c := DozeCfg.ofWord w
  if c.dozeIdle = 0 then configRefused s else updCfg (fun d => { d with dozecfg := c }) s

/-! ## The board and the other registers -/

/-- BOARDn (R107). -/
def writeBoard (n : Fin 64) (w : Word) (s : State) : State :=
  { s with board := s.board.set n (s.board[n].stage w) }

/-- BOARDRDi: bit k is the REMOTE_READ attribute of entry 32 i + k (R108). -/
def writeBoardrd (i : Fin 2) (w : Word) (s : State) : State :=
  { s with board := Vector.ofFn fun n : Fin 64 =>
      if n.val / 32 = i.val then { s.board[n] with remoteRead := w.getLsbD (n.val % 32) } else s.board[n] }

/-- BOARDWRi: bit k is the REMOTE_WRITE attribute of entry 32 i + k (R108). -/
def writeBoardwr (i : Fin 2) (w : Word) (s : State) : State :=
  { s with board := Vector.ofFn fun n : Fin 64 =>
      if n.val / 32 = i.val then { s.board[n] with remoteWrite := w.getLsbD (n.val % 32) } else s.board[n] }

/-- Change the host-side registers. -/
def updHost (f : HostRegs → HostRegs) (s : State) : State := { s with host := f s.host }

/-- A host write of a register, on an edge of its own; a read-only register ignores it (R164). -/
def writeReg (r : Reg) (w : Word) (s : State) : State :=
  match r with
  | .sctl => writeSctl w s
  | .cmdw => writeCmdw (w.extractLsb' 24 8) (w.extractLsb' 0 24) s
  | .evst => evstClear w 0 s
  | .ident => writeIdent w s
  | .linkcfg => writeLinkcfg w s
  | .tickdiv => writeTickdiv w s
  | .quota => writeQuota w s
  | .routecfg => writeRoutecfg w s
  | .hmark n => writeHmark n w s
  | .holdcfg => writeHoldcfg .holdcfg w s
  | .holdmrg => writeHoldcfg .holdmrg w s
  | .dozecfg => writeDozecfg w s
  | .board n => writeBoard n w s
  | .boardrd i => writeBoardrd i w s
  | .boardwr i => writeBoardwr i w s
  | .even => updCfg (fun d => { d with even := w &&& 0x07FFFFFF#32 }) s
  | .stageh => updHost (fun h => { h with stageh := stagehMask w }) s
  | .stage i => updHost (fun h => { h with stage := h.stage.set i w }) s
  | .slotsel => updHost (fun h => { h with slotsel := w.extractLsb' 0 5 }) s
  | .ibsel => updHost (fun h => { h with ibsel := w.extractLsb' 0 2 }) s
  | .tblsel => updHost (fun h => { h with tblIndex := w.extractLsb' 0 8, tblTable := w.extractLsb' 16 2 }) s
  | .tbldata i => updHost (fun h => if i.val = 0 then { h with tbldata0 := w } else { h with tbldata1 := w }) s
  | .sstat | .cmdr | .linkstat | .slotview _ | .cqview _ | .ibview _ | .ibcount | .dozestat | .sessview _
  | .claimview | .cnt _ | .holdview _ | .boardstg _ | .boardmod _ => s

/-- A host write at an offset of the window; an unmapped offset ignores it (R164). -/
def writeOffset (off : BitVec 10) (w : Word) (s : State) : State :=
  match regAt off with
  | some r => writeReg r w s
  | none => s

/-- What a host read at an offset of the window returns: the register as every event before the access on its edge left
it, 0 at an offset that names no register, and 0 everywhere while RESET# is low (R132, R158, R164). -/
def State.readOffset (s : State) (off : BitVec 10) : Word :=
  if s.inReset then 0
  else match regAt off with
    | some r => (expireDue s).readReg r
    | none => 0

/-! ## Meanings -/

/-- A host write as an event. -/
def writeEvent (f : State → State) (s : State) : Host.Outcome State Fault Refusal := done (hostEvent f s)

def execSoftReset (s : State) : Host.Outcome State Fault Refusal := writeEvent softReset s
def execLinkEnable (f : SctlFields) (s : State) : Host.Outcome State Fault Refusal :=
  writeEvent (fun t => enableLink (writeFields f t)) s
def execLinkDisable (f : SctlFields) (s : State) : Host.Outcome State Fault Refusal :=
  writeEvent (fun t => disableLink (writeFields f t)) s

/-- A write of EVST; on a shared edge it leaves the bits raised on that edge (R153). -/
def execEvstWrite (w : Word) (edge : Edge) (s : State) : Host.Outcome State Fault Refusal :=
  writeEvent (fun t => evstClear w (match edge with | .own => 0 | .shared => t.events.edgeRaised) t) s

/-- A read of EVST; while RESET# is low every read returns 0 (R154, R158). -/
def execEvstReadClear (s : State) : Host.Outcome State Fault Refusal :=
  if s.inReset then done (updHost (fun h => { h with readData := 0 }) s) else writeEvent evstRead s

def execBoardWrite (n : Fin 64) (w : Word) (s : State) : Host.Outcome State Fault Refusal :=
  writeEvent (writeBoard n w) s
def execIdentWrite (w : Word) (s : State) : Host.Outcome State Fault Refusal := writeEvent (writeIdent w) s
def execLinkcfgWrite (w : Word) (s : State) : Host.Outcome State Fault Refusal := writeEvent (writeLinkcfg w) s
def execTickdivWrite (w : Word) (s : State) : Host.Outcome State Fault Refusal := writeEvent (writeTickdiv w) s
def execQuotaWrite (w : Word) (s : State) : Host.Outcome State Fault Refusal := writeEvent (writeQuota w) s
def execRoutecfgWrite (w : Word) (s : State) : Host.Outcome State Fault Refusal := writeEvent (writeRoutecfg w) s
def execHmarkWrite (n : Fin 4) (w : Word) (s : State) : Host.Outcome State Fault Refusal :=
  writeEvent (writeHmark n w) s
def execHoldcfgWrite (r : HoldReg) (w : Word) (s : State) : Host.Outcome State Fault Refusal :=
  writeEvent (writeHoldcfg r w) s
def execDozecfgWrite (w : Word) (s : State) : Host.Outcome State Fault Refusal := writeEvent (writeDozecfg w) s
def execRegisterWrite (off : BitVec 10) (w : Word) (s : State) : Host.Outcome State Fault Refusal :=
  writeEvent (writeOffset off w) s

/-- An edge of RESET#: its assertion while it is high, its release while it is low (R158, log 10). -/
def execReset (s : State) : Host.Outcome State Fault Refusal :=
  done (if s.inReset then releaseReset s else assertReset s)

/-- Power-on acts as an assertion of RESET#, which its release ends (R158). -/
def execPowerOn (s : State) : Host.Outcome State Fault Refusal := done (assertReset s)

end Sys2Proof.Machine
end

