-- ==== Sys2Proof/Machine/LineEvents.lean ====
section
/-! DEFINITION. The line-derived events (R132, order 1). An event that the rules exclude in the present state changes
nothing (log 4). -/

namespace Sys2Proof.Machine

/-- A pulse outside a parcel proves mark-class: it opens a parcel in IDLE and, as the window parcel, in AWAITING; it
ends the wait for the start of a decided answer; where pulses are ignored it only keeps the line low (R26, R27, R32,
R39). -/
def onLeadMark (s : State) : State :=
  match s.link.act with
  | .idle =>
    if s.link.bus = .ignoring then markSeen s
    else markSeen { s with link := { s.link with act := .listening none, bus := .busy } }
  | .awaiting p => markSeen (setAct (.listening (some p)) s)
  | .answering _ false => markSeen (setAct (.listening none) s)
  | .pulse => markSeen (setAct (.listening none) s)
  | .settling => markSeen s
  | _ => s

/-- A reception ends: the line since the lead mark gives the result (R4, R36). -/
def onParcel (items : List LineItem) (s : State) : State :=
  match s.link.act with
  | .listening w =>
    match receive s.bt items with
    | some r => receptionEnds w r s
    | none => s
  | _ => s

/-- The parcel as it goes on after contention: a call carries its tag in use (R57). -/
def State.wonParcel (s : State) (o : Owner) (p : Parcel) : Parcel :=
  match o, s.calls.current with
  | .call, some n => { p with tag := s.calls.slots[n].tag.getD 0 }
  | _, _ => p

/-- Contention is won (R28, R52, R57). -/
def onContentionWon (s : State) : State :=
  match s.link.act with
  | .contending o p =>
    let t := match o with
      | .call => callWon s
      | .hold _ => s
    rowHigh (setAct (.transmitting o (t.wonParcel o p)) t)
  | _ => s

/-- Arbitration loss: the link becomes a receiver of the winning parcel (R28). -/
def onArbitrationLoss (s : State) : State :=
  match s.link.act with
  | .contending o _ =>
    let t := reportLost o (count .arbLosses s)
    rowHigh { t with link := { t.link with act := .listening none, bus := .busy } }
  | _ => s

/-- A clash in the tag field of an own call: NODE_CONFLICT and LINKSTAT.CONFLICTS (R31). -/
def nodeConflict (s : State) : State :=
  raise .nodeConflict { s with link := { s.link with
    conflicts := if s.link.conflicts = 255 then 255 else s.link.conflicts + 1 } }

/-- Whether a bit number lies in the tag field (R31). -/
def inTagField (b : Nat) : Bool :=
  Config.arbitrationBits ≤ b && b < Config.arbitrationBits + Config.tagBits

/-- A bit clash after the arbitration field of an own call or HOLD, or anywhere in an own answer (R30, R31, R40). -/
def onBitClash (b : Nat) (s : State) : State :=
  match s.link.act with
  | .transmitting o p =>
    if Config.arbitrationBits ≤ b ∧ b < p.bitCount then
      let t := if o = .call ∧ inTagField b then nodeConflict s else s
      rowHigh (toIdle .ignoring (reportBroken o p .bitClash (countFault t)))
    else s
  | .answering a true => if b < a.bitCount then rowHigh (toIdle .ignoring (countFault s)) else s
  | _ => s

/-- A mark-class pulse where an own cell was sent (R28, R30, R40): in the arbitration field it is a lost contention
and no counted fault, later it breaks the parcel. -/
def onMarkFault (s : State) : State :=
  match s.link.act with
  | .contending o _ => markSeen (toIdle .ignoring (reportLost o (count .markFaults s)))
  | .transmitting o p => markSeen (toIdle .ignoring (reportBroken o p .markFault (countFault (count .markFaults s))))
  | .answering _ true => markSeen (toIdle .ignoring (countFault (count .markFaults s)))
  | _ => s

/-- An own call or HOLD parcel is sent cleanly: a unicast call opens its answer window, anything else ends as sent
(R30, R72). -/
def onSentCleanly (s : State) : State :=
  match s.link.act with
  | .transmitting o p =>
    let t := sentOk s
    if o = .call ∧ p.dest ≠ 0 then
      rowHigh { t with link := { t.link with act := .awaiting p, callAge := some 0 } }
    else rowHigh (toIdle .busy (reportSent o p t))
  | _ => s

/-- An own answer is sent cleanly (R40). -/
def onAnswerSent (s : State) : State :=
  match s.link.act with
  | .answering _ true => rowHigh (toIdle .busy (sentOk s))
  | _ => s

/-- The lead mark of the decided answer begins, unless a falling edge has come before it; one of the same HCLK edge has
not (R39). -/
def onAnswerStart (s : State) : State :=
  match s.link.act with
  | .answering a false =>
    if s.link.line.low.isSome && !s.events.edgeFell then dropAnswer s else leadBegins (setAct (.answering a true) s)
  | _ => s

/-- The answer window ends with no parcel begun in it; a pulse still low at its end is awaited (R32). -/
def onWindowExpiry (s : State) : State :=
  match s.link.act with
  | .awaiting p => if s.link.line.low.isSome then s else rowHigh (toIdle .busy (attemptEnd p .noAnswer s))
  | _ => s

/-- The quiet gap has run to its end: the bus is free; SETTLING passes to IDLE (R5, R26). -/
def onQuietGapEnd (s : State) : State :=
  match s.link.act with
  | .settling => rowHigh (toIdle .free s)
  | .idle => rowHigh (toIdle .free s)
  | _ => s

/-- The line rises in STUCK (R136): no edge of SLINE but this one lies on its HCLK edge. -/
def onLineHigh (s : State) : State :=
  match s.link.act with
  | .stuck => raise .lineBack (enterSettling (lineRises s))
  | _ => s

/-- A stray pulse (R4, R26, R27, R32, R39): the quiet gap restarts; in AWAITING a pulse that outlasts the window ends
the attempt with no answer; before its start a decided answer is given up. -/
def onStrayPulse (outlastsWindow : Bool) (s : State) : State :=
  match s.link.act with
  | .idle => rowHigh (toIdle (if s.link.bus = .ignoring then .ignoring else .busy) s)
  | .awaiting p => if outlastsWindow then rowHigh (toIdle .busy (attemptEnd p .noAnswer s)) else rowHigh s
  | .answering _ false => rowHigh (toIdle .busy s)
  | .pulse => rowHigh (toIdle .busy s)
  | .settling => rowHigh s
  | _ => s

/-! ## Meanings -/

def execLeadMark (s : State) : Host.Outcome State Fault Refusal := done (lineEvent onLeadMark s)
def execParcelReceived (items : List LineItem) (s : State) : Host.Outcome State Fault Refusal :=
  done (lineEvent (onParcel items) s)
def execContentionWon (s : State) : Host.Outcome State Fault Refusal := done (lineEvent onContentionWon s)
def execArbitrationLoss (s : State) : Host.Outcome State Fault Refusal := done (lineEvent onArbitrationLoss s)
def execBitClash (b : Nat) (s : State) : Host.Outcome State Fault Refusal := done (lineEvent (onBitClash b) s)
def execMarkFault (s : State) : Host.Outcome State Fault Refusal := done (lineEvent onMarkFault s)
def execSentCleanly (s : State) : Host.Outcome State Fault Refusal := done (lineEvent onSentCleanly s)
def execAnswerSent (s : State) : Host.Outcome State Fault Refusal := done (lineEvent onAnswerSent s)
def execAnswerStart (s : State) : Host.Outcome State Fault Refusal := done (lineEvent onAnswerStart s)
def execAnswerWindowExpiry (s : State) : Host.Outcome State Fault Refusal := done (lineEvent onWindowExpiry s)
def execQuietGapEnd (s : State) : Host.Outcome State Fault Refusal := done (lineEvent onQuietGapEnd s)
def execLineHigh (s : State) : Host.Outcome State Fault Refusal := done (lineEvent onLineHigh s)
def execStrayPulse (outlastsWindow : Bool) (s : State) : Host.Outcome State Fault Refusal :=
  done (lineEvent (onStrayPulse outlastsWindow) s)

end Sys2Proof.Machine
end

