-- ==== Sys2Proof/Machine/TimerEvents.lean ====
section
/-! DEFINITION. The Timebase (chapter 8): how time passes from one HCLK edge to the next (R131, R132), and the timer
expiries as rows of the table. -/

namespace Sys2Proof.Machine

/-! ## Time passes -/

/-- One HCLK cycle on every timer, on the age of the own call and on that of a low line (R131, log 2). -/
def advanceTimers (s : State) : State :=
  let f : Option Timer → Option Timer := Option.map (Timer.tick s.div)
  { s with
    link := { s.link with
      callAge := s.link.callAge.map (· + 1)
      line := { s.link.line with low := s.link.line.low.map (· + 1), stuck := f s.link.line.stuck } }
    calls := { s.calls with backoff := Vector.ofFn fun c => f s.calls.backoff[c] }
    sess := { s.sess with
      stack := s.sess.stack.map fun e => { e with mirror := f e.mirror }
      leaseTimer := f s.sess.leaseTimer }
    hold := { s.hold with
      timers := Vector.ofFn fun c => f s.hold.timers[c]
      refresh := f s.hold.refresh }
    doze := { s.doze with idle := f s.doze.idle } }

/-- The next HCLK edge: the timers count one cycle and SLINE is followed. What is then due, and what a falling edge does to
a decided answer, wait for the line event of the edge, which comes first (R39, R131, R132). -/
def nextEdge (s : State) : State := watchLine (clearEdge (advanceTimers (dropAnswer s)))

/-- Nothing waits: what is due on the present edge takes place, and where nothing is due the next edge begins
(R132, log 2). While RESET# is low no timer runs (R158). -/
def tick (s : State) : State :=
  if s.inReset then followPin s else if s.anyDue then expireDue s else nextEdge s

/-! ## Meanings -/

def execIncomingHoldExpiry (c : Fin 4) (s : State) : Host.Outcome State Fault Refusal :=
  done (timerEvent (onHoldExpiry c) s)
def execBackoffExpiry (c : Fin 4) (s : State) : Host.Outcome State Fault Refusal :=
  done (timerEvent (onBackoffExpiry c) s)
def execRefreshTimerExpiry (s : State) : Host.Outcome State Fault Refusal := done (timerEvent onRefreshExpiry s)
def execLeaseExpiry (s : State) : Host.Outcome State Fault Refusal := done (timerEvent onLeaseExpiry s)
def execMirrorExpiry (k : Nat) (s : State) : Host.Outcome State Fault Refusal :=
  done (timerEvent (onMirrorExpiry k) s)
def execStuckTimerExpiry (s : State) : Host.Outcome State Fault Refusal := done (timerEvent onStuckExpiry s)
def execDozeIdleExpiry (s : State) : Host.Outcome State Fault Refusal := done (timerEvent onDozeIdleExpiry s)

/-- Doze is entered within the event that makes both conditions true, so as an event of its own this is the entry
test of R143. -/
def execDozeEntered (s : State) : Host.Outcome State Fault Refusal := done (timerEvent enterDoze s)

end Sys2Proof.Machine
end

