-- ==== Sys2Proof/Machine/Dispatch.lean ====
section
/-! DEFINITION. The dispatch: one arm for each row of spec/opcode_table.json. -/

namespace Sys2Proof.Machine

/-- The effect of a command or event on everything but the queue of waiting commands. -/
def exec (i : Instr) (s : State) : Host.Outcome State Fault Refusal :=
  match i with
  | .submit edge => Sys2Proof.Machine.execSubmit edge s
  | .cancel arg => Sys2Proof.Machine.execCancel arg s
  | .retire arg => Sys2Proof.Machine.execRetire arg s
  | .cqPop => Sys2Proof.Machine.execCqPop s
  | .flushClass arg => Sys2Proof.Machine.execFlushClass arg s
  | .tagReset arg => Sys2Proof.Machine.execTagReset arg s
  | .inboxPop arg => Sys2Proof.Machine.execInboxPop arg s
  | .inboxFlush arg => Sys2Proof.Machine.execInboxFlush arg s
  | .tableRead arg => Sys2Proof.Machine.execTableRead arg s
  | .tableWrite arg => Sys2Proof.Machine.execTableWrite arg s
  | .publish arg => Sys2Proof.Machine.execPublish arg s
  | .publishForce arg => Sys2Proof.Machine.execPublishForce arg s
  | .withdraw arg => Sys2Proof.Machine.execWithdraw arg s
  | .absorb arg => Sys2Proof.Machine.execAbsorb arg s
  | .holdSend arg => Sys2Proof.Machine.execHoldSend arg s
  | .sessionDrop => Sys2Proof.Machine.execSessionDrop s
  | .breakClaim => Sys2Proof.Machine.execBreakClaim s
  | .doze => Sys2Proof.Machine.execDoze s
  | .wake edge => Sys2Proof.Machine.execWake edge s
  | .linkRestart => Sys2Proof.Machine.execLinkRestart s
  | .quarantineClear => Sys2Proof.Machine.execQuarantineClear s
  | .countersClear => Sys2Proof.Machine.execCountersClear s
  | .badCode code => Sys2Proof.Machine.execBadCode code s
  | .softReset => Sys2Proof.Machine.execSoftReset s
  | .linkEnable f => Sys2Proof.Machine.execLinkEnable f s
  | .linkDisable f => Sys2Proof.Machine.execLinkDisable f s
  | .evstWrite w edge => Sys2Proof.Machine.execEvstWrite w edge s
  | .evstReadClear => Sys2Proof.Machine.execEvstReadClear s
  | .boardWrite n w => Sys2Proof.Machine.execBoardWrite n w s
  | .identWrite w => Sys2Proof.Machine.execIdentWrite w s
  | .linkcfgWrite w => Sys2Proof.Machine.execLinkcfgWrite w s
  | .tickdivWrite w => Sys2Proof.Machine.execTickdivWrite w s
  | .quotaWrite w => Sys2Proof.Machine.execQuotaWrite w s
  | .routecfgWrite w => Sys2Proof.Machine.execRoutecfgWrite w s
  | .hmarkWrite n w => Sys2Proof.Machine.execHmarkWrite n w s
  | .holdcfgWrite r w => Sys2Proof.Machine.execHoldcfgWrite r w s
  | .dozecfgWrite w => Sys2Proof.Machine.execDozecfgWrite w s
  | .registerWrite off w => Sys2Proof.Machine.execRegisterWrite off w s
  | .reset => Sys2Proof.Machine.execReset s
  | .powerOn => Sys2Proof.Machine.execPowerOn s
  | .leadMark => Sys2Proof.Machine.execLeadMark s
  | .parcelReceived items => Sys2Proof.Machine.execParcelReceived items s
  | .contentionWon => Sys2Proof.Machine.execContentionWon s
  | .arbitrationLoss => Sys2Proof.Machine.execArbitrationLoss s
  | .bitClash bit => Sys2Proof.Machine.execBitClash bit s
  | .markFault => Sys2Proof.Machine.execMarkFault s
  | .sentCleanly => Sys2Proof.Machine.execSentCleanly s
  | .answerSent => Sys2Proof.Machine.execAnswerSent s
  | .answerStart => Sys2Proof.Machine.execAnswerStart s
  | .answerWindowExpiry => Sys2Proof.Machine.execAnswerWindowExpiry s
  | .quietGapEnd => Sys2Proof.Machine.execQuietGapEnd s
  | .lineHigh => Sys2Proof.Machine.execLineHigh s
  | .stuckTimerExpiry => Sys2Proof.Machine.execStuckTimerExpiry s
  | .incomingHoldExpiry c => Sys2Proof.Machine.execIncomingHoldExpiry c s
  | .backoffExpiry c => Sys2Proof.Machine.execBackoffExpiry c s
  | .refreshTimerExpiry => Sys2Proof.Machine.execRefreshTimerExpiry s
  | .leaseExpiry => Sys2Proof.Machine.execLeaseExpiry s
  | .mirrorExpiry k => Sys2Proof.Machine.execMirrorExpiry k s
  | .dozeIdleExpiry => Sys2Proof.Machine.execDozeIdleExpiry s
  | .dozeEntered => Sys2Proof.Machine.execDozeEntered s
  | .strayPulse outlastsWindow => Sys2Proof.Machine.execStrayPulse outlastsWindow s

end Sys2Proof.Machine
end

