-- ==== Sys2Proof/Machine/Step.lean ====
section
/-! DEFINITION. One step of the controller: the command at the front of the queue, or what time
brings when none waits. -/

namespace Sys2Proof.Machine

/-- The command at the front of the queue takes effect with the rest of the queue in place; with nothing waiting,
what is due on the present HCLK edge takes place, or the next edge begins (R131, R132, log 2). -/
def step (s : State) : Host.Outcome State Fault Refusal :=
  match s.pending with
  | [] => .next (tick s)
  | c :: rest => exec c { s with pending := rest }

/-- The state with the command that a table word spells put at the front of its queue; unchanged where the word
spells none, which is every word, since the table gives no row any bits (log 17). -/
def State.withFetchWord (s : State) (nbits w : Nat) : State :=
  match decodeTableWord nbits w with
  | some c => { s with pending := c :: s.pending }
  | none => s

end Sys2Proof.Machine
end

