-- ==== Sys2Proof/Safety.lean ====
section
/-! DEFINITION. What claims about the controller are stated in: the legal states of each block, as invariants that
the rules give (a step keeps them), and the values of the register map after reset. -/

namespace Sys2Proof.Safety

open Sys2Proof.Machine

/-! ## Registers -/

/-- The column "Value after reset" of section 12.5. -/
def resetValue : Reg → Word
  | .sstat => 0x00001800
  | .ident => 0x64030000
  | .linkcfg => 0x000A3282
  | .tickdiv => 0x00000031
  | .ibview i => if i.val = 0 then 0x00000001 else 0
  | .quota => 0x0A0A0A0A
  | .holdcfg => 0x01000001
  | .hmark _ => 0x00000408
  | .holdmrg => 0x00000020
  | .dozecfg => 0x0000320E
  | _ => 0

/-- No timer of the controller runs (R131, R158). -/
def timersStopped (s : State) : Prop :=
  (∀ c : Fin 4, s.hold.timers[c] = none ∧ s.calls.backoff[c] = none) ∧ s.hold.refresh = none ∧
    s.sess.leaseTimer = none ∧ (∀ e ∈ s.sess.stack, e.mirror = none) ∧ s.doze.idle = none ∧
    s.link.line.stuck = none

/-- The bits of a register that a layout names and a plain write stores (section 12.5, section 12.7). -/
def storedBits : Reg → Word
  | .even => 0x07FFFFFF
  | .stageh => 0xFF3FFFFF
  | .slotsel => 0x0000001F
  | .ibsel => 0x00000003
  | .tblsel => 0x000300FF
  | .stage _ | .tbldata _ | .boardrd _ | .boardwr _ => 0xFFFFFFFF
  | _ => 0

/-- The read/write registers that no row of the table but REGISTER_WRITE writes. -/
def isPlain : Reg → Bool
  | .even | .stageh | .slotsel | .ibsel | .tblsel | .stage _ | .tbldata _ | .boardrd _ | .boardwr _ => true
  | _ => false

/-- The registers that hold what was written and show nothing else: a write of another register leaves them. -/
def isStored : Reg → Bool
  | .sstat | .cmdr | .evst | .linkstat | .slotview _ | .cqview _ | .ibview _ | .ibcount | .dozestat | .sessview _
  | .claimview | .cnt _ | .holdview _ | .boardstg _ | .boardmod _ | .board _ => false
  | _ => true

/-! ## Host accesses -/

/-- What follows the effect of a host access within its event: the end of the event and of its HCLK edge (R27, R143,
R144, R155, R132). -/
def afterHost (t : State) : State := clearEdge (endEvent t)

/-- A command that returned OK with this value: CMDR tells it (R165). -/
def commandOk (code : BitVec 8) (v : BitVec 16) (t : State) : State :=
  { t with host := { t.host with cmdr := { code, result := .ok, value := v } } }

/-- A command that returned another result: CMDR tells it, CMD_ERROR is raised, and nothing else changes (R165). -/
def commandRefused (code : BitVec 8) (r : CmdResult) (v : BitVec 16) (t : State) : State :=
  raise .cmdError { t with host := { t.host with cmdr := { code, result := r, value := v } } }

/-- The rows of the table that are commands of the Command Port (section 12.3). -/
def isCommand : Instr → Bool
  | .submit _ | .cancel _ | .retire _ | .cqPop | .flushClass _ | .tagReset _ | .inboxPop _ | .inboxFlush _
  | .tableRead _ | .tableWrite _ | .publish _ | .publishForce _ | .withdraw _ | .absorb _ | .holdSend _
  | .sessionDrop | .breakClaim | .doze | .wake _ | .linkRestart | .quarantineClear | .countersClear | .badCode _ => true
  | _ => false

/-! ## Events from the bus and from timers -/

/-- The rows that no host access causes: line events, expiries and the entry of doze (R132, orders 1 to 8). -/
def isBusEvent : Instr → Bool
  | .leadMark | .parcelReceived _ | .contentionWon | .arbitrationLoss | .bitClash _ | .markFault | .sentCleanly
  | .answerSent | .answerStart | .answerWindowExpiry | .quietGapEnd | .lineHigh | .stuckTimerExpiry
  | .incomingHoldExpiry _ | .backoffExpiry _ | .refreshTimerExpiry | .leaseExpiry | .mirrorExpiry _
  | .dozeIdleExpiry | .dozeEntered | .strayPulse _ => true
  | _ => false

/-- The rows that return the controller to its state after reset (R158, R159). -/
def isReset : Instr → Bool
  | .softReset | .reset | .powerOn => true
  | _ => false

/-- The parcel that the controller has on SLINE, from its lead mark to the end of its tail mark (R2). -/
def ownOnLine : Activity → Option Parcel
  | .contending _ p | .transmitting _ p | .answering p true => some p
  | _ => none

/-- The pin with SLINE high: no other node pulls it low, and the stuck timer is stopped (R134). -/
def lineHigh (l : Line) : Line := { l with pulled := false, low := none, stuck := none }

/-- SLINE is high and the stuck timer stopped (R134), unless a falling edge of the present HCLK edge, another node's or
one of the own parcel, has come since (R27). -/
def lineUp (t : State) : State :=
  if t.events.edgeFell ∧ (t.link.line.pulled ∨ (ownOnLine t.link.act).isSome) then t
  else { t with link := { t.link with line := lineHigh t.link.line } }

/-- The pin once the controller drives it no more: high, unless another node pulls it low (R1, R22). -/
def lineReleased (s : State) : Line :=
  { s.link.line with
    low := if (ownOnLine s.link.act).isSome && !s.link.line.pulled then none else s.link.line.low }

/-- The own lead mark begins. It is the falling edge of SLINE, which starts the stuck timer; where another node's pulse
has begun already it is timed from that (R2, R9, R134). -/
def ownLead (t : State) : State :=
  let l := t.link.line
  { t with link := { t.link with line := match l.low with
      | none => { l with cell := 0, cellAge := 0, low := some 0,
                         stuck := Timer.start t.div (t.cfg.linkcfg.stuckLimit.toNat * 100) }
      | some age => { l with cell := 0, cellAge := age } } }

/-- Another node's pulse has lasted 1.75 bt; the stuck timer runs since its falling edge (R3, R133, R134). -/
def markLow (t : State) : State :=
  let l := { t.link.line with pulled := true }
  { t with link := { t.link with line := match l.low with
      | none => { l with low := some (7 * t.bt / 4),
                         stuck := Timer.startAged t.div (t.cfg.linkcfg.stuckLimit.toNat * 100) (7 * t.bt / 4) }
      | some _ => l } }

/-- The expiries that can fall due on one HCLK edge, in the order of R132 (orders 2 to 8). -/
def expiryRows : List Instr :=
  (List.finRange 4).map .incomingHoldExpiry ++ (List.finRange 4).map .backoffExpiry ++
    [.refreshTimerExpiry, .leaseExpiry] ++ [1, 2, 3, 4, 5, 6].map .mirrorExpiry ++ [.stuckTimerExpiry, .dozeIdleExpiry]

/-- Whether the timer of an expiry row has reached its end; a stuck timer expires in no state but those in which it may
run (R134). -/
def rowDue (t : State) : Instr → Bool
  | .incomingHoldExpiry c => isDue t.hold.timers[c]
  | .backoffExpiry c => isDue t.calls.backoff[c]
  | .refreshTimerExpiry => isDue t.hold.refresh
  | .leaseExpiry => isDue t.sess.leaseTimer
  | .mirrorExpiry k => isDue (t.mirrorOf k)
  | .stuckTimerExpiry => isDue t.link.line.stuck && t.link.act ≠ .off && t.link.act ≠ .stuck
  | .dozeIdleExpiry => isDue t.doze.idle
  | _ => false

/-- The expiries that are due in a state, in the order of R132. -/
def dueRows (t : State) : List Instr := expiryRows.filter (rowDue t)

/-- An expiry takes effect if it is due at its turn (R132). -/
def expireRow (t : State) (c : Instr) : State :=
  if rowDue t c then
    match exec c t with
    | .next u => u
    | _ => t
  else t

/-- The line event of an HCLK edge is over: a decided answer that has not begun is given up if SLINE is low, and the link
listens to that pulse (R39). -/
def lineOver (s : State) : State :=
  match s.link.act with
  | .answering _ false => if s.link.line.low = none then s else { s with link := { s.link with act := .pulse } }
  | _ => s

/-- The state in which a host access finds the controller: the line event of its HCLK edge, and the expiries that are due
on it, have come before it, in their order (R132). -/
def hostEdge (s : State) : State := expiryRows.foldl expireRow (lineOver s)

/-- The state with the note that something has happened on its HCLK edge (R132). -/
def begun (s : State) : State := { s with events := { s.events with edgeBegun := true } }

/-- The state in which a line event finds the controller: the present one where nothing has happened on this HCLK edge,
and otherwise the next edge, before which the expiries of this one have come (R132). -/
def lineEdge (s : State) : State := begun (if s.events.edgeBegun then clearEdge (hostEdge s) else s)

/-- The state in which an expiry finds the controller: the line event of its HCLK edge is over (R132). -/
def timerEdge (s : State) : State := begun (lineOver s)

/-- The rows that are line-derived events (R132, order 1). -/
def isLineEvent : Instr → Bool
  | .leadMark | .parcelReceived _ | .contentionWon | .arbitrationLoss | .bitClash _ | .markFault | .sentCleanly
  | .answerSent | .answerStart | .answerWindowExpiry | .quietGapEnd | .lineHigh | .strayPulse _ => true
  | _ => false

/-- The state in which the event of a row finds the controller (R132); the expiries and the hardware resets find it as it
is. -/
def found (c : Instr) (s : State) : State :=
  if isLineEvent c then lineEdge s else if isBusEvent c || c = .reset || c = .powerOn then s else hostEdge s

/-- A reception has ended with the line high and no answer to send (R36). -/
def unanswered (k : Bus) (t : State) : State :=
  lineUp { t with link := { t.link with act := .idle, bus := k } }

/-- A reception has ended with this answer to the call `p` decided (R12, R36, R39). -/
def answered (p : Parcel) (kind : BitVec 4) (payload : List Byte) (t : State) : State :=
  let a : Parcel := ⟨p.cls, p.source, kind, p.dest, p.tag, payload⟩
  lineUp { t with link := { t.link with act := .answering a false, bus := .busy } }

/-- An ACK to the holder restarts the responder lease (R81). -/
def renewed (p : Parcel) (t : State) : State :=
  if t.sess.holder = some p.source then restartLease t else t

/-- A call with tag 0 empties the repeat record of its source, while REPEAT_EN is 1 (R94). -/
def forgotten (p : Parcel) (t : State) : State :=
  if t.cfg.ident.repeatEn = true ∧ p.tag = 0 then setRepeat p.source none t else t

/-- A call carried out and answered ACK: the record of its source is emptied for tag 0, and set for another tag, while
REPEAT_EN is 1 (R94). -/
def remembered (p : Parcel) (kind : RepeatKind) (value : Word) (t : State) : State :=
  if t.cfg.ident.repeatEn = true then
    setRepeat p.source (if p.tag = 0 then none else some { tag := p.tag, kind := kind, value := value }) t
  else t

/-- Intake is open to the call: intake enabled, the controller not dozing (R88, steps 4 and 5). -/
def intakeOpen (s : State) : Prop := s.sctl.intakeEn = true ∧ s.doze.state ≠ .dozing

/-! ## Events and configuration -/

/-- INT# is driven low exactly while the interrupt condition holds (R155). -/
def IntFollows (s : State) : Prop := s.events.intLow = s.interrupt

/-- The configuration holds only values that its rules accept (R7, R21, R85, R101, R122, R130, R141). -/
structure ConfigLegal (s : State) : Prop where
  primary : s.cfg.ident.primary ≠ 31
  aliasId : s.cfg.ident.aliasId ≠ 31
  distinct : s.cfg.ident.primary ≠ 0 → s.cfg.ident.aliasId ≠ s.cfg.ident.primary
  enabled : s.linkEn = true → s.cfg.ident.primary ≠ 0
  tickdiv : 7 ≤ s.cfg.tickdiv.toNat
  pool : s.cfg.quota[0].toNat + s.cfg.quota[1].toNat + s.cfg.quota[2].toNat + s.cfg.quota[3].toNat ≤ Config.poolSize
  marks : ∀ n : Fin 4, 1 ≤ s.cfg.hmark[n].high.toNat ∧ s.cfg.hmark[n].high.toNat ≤ 40 ∧
    1 ≤ s.cfg.hmark[n].low.toNat ∧ s.cfg.hmark[n].low.toNat ≤ 40
  dozeIdle : s.cfg.dozecfg.dozeIdle ≠ 0
  routes : ∀ i : Fin 16, s.cfg.routes[i].source ≠ 31
  filters : ∀ i : Fin 4, s.cfg.filters[i].source ≠ 31

/-- What the controller holds of EVST, EVEN and STAGEH has 0 in the bits that these do not name: the sticky bits of EVST
lie in bits 26:5 (R44, R151, R152). -/
structure UnnamedBitsClear (s : State) : Prop where
  sticky : s.events.sticky &&& 0xF800001F#32 = 0
  even : s.cfg.even &&& 0xF8000000#32 = 0
  stageh : s.host.stageh &&& 0x00C00000#32 = 0

/-! ## Intake and Hold Unit -/

/-- A record that a good PUT can leave (R7, R100). -/
def recordLegal (r : InRecord) : Prop := r.payload.length ≤ Config.maxPayload ∧ r.source ≠ 0 ∧ r.source ≠ 31

/-- No inbox holds more than its quota, and every record is legal (R100, R101). -/
def InboxesFit (s : State) : Prop :=
  ∀ n : Fin 4, s.occupancy n ≤ s.cfg.quota[n].toNat ∧ ∀ r ∈ s.intake.inboxes[n], recordLegal r

/-- A repeat record holds a tag 1..15, and value 0 for a PUT (R92). -/
def RepeatsLegal (s : State) : Prop :=
  ∀ i : Fin 30, ∀ r, s.intake.repeats[i] = some r → r.tag ≠ 0 ∧ (r.kind = .put → r.value = 0)

/-- The asserted set is the union of the classes of the inboxes in HOLDING, it contains the pending assert set and no
class of the pending release set, and with OUT_EN 0 every inbox is CLEAR (R122, R123). -/
structure HoldSets (s : State) : Prop where
  union : s.hold.asserted = s.wantedClasses
  assertWithin : s.hold.pendAssert &&& ~~~s.hold.asserted = 0
  releaseOutside : s.hold.pendRelease &&& s.hold.asserted = 0
  off : s.cfg.holdcfg.outEn = false → ∀ n : Fin 4, s.hold.holding[n] = false

/-! ## Responder side and doze -/

/-- The lease timer runs only while a node 1..30 holds the claim (R77). -/
structure ClaimCoherent (s : State) : Prop where
  timer : s.sess.holder = none → s.sess.leaseTimer = none
  node : s.sess.holder ≠ some 0 ∧ s.sess.holder ≠ some 31

/-- Whether an own call, or a HOLD parcel, is under way in this activity (R29, R43). -/
def ownParcel : Activity → Bool
  | .contending _ _ | .transmitting _ _ | .awaiting _ | .listening (some _) => true
  | _ => false

/-- Whether an own call is under way in this activity: its report sequence has begun and not ended (R29). -/
def ownCall : Activity → Bool
  | .contending .call _ | .transmitting .call _ | .awaiting _ | .listening (some _) => true
  | _ => false

/-- The Doze Unit is AWAKE while the link is off, nothing of the controller's own is on the bus while it is DOZING,
and the doze idle timer runs only under the idle conditions (R43, R144, R148). -/
structure DozeCoherent (s : State) : Prop where
  off : s.link.act = .off → s.doze.state = .awake
  quiet : s.doze.state = .dozing → ownParcel s.link.act = false
  idle : s.doze.idle.isSome = true → s.idleConditions = true

/-! ## Calls (R47, R48, R49, R62, R68) -/

/-- The class queues hold the calls they should, and the chain successor stands in its place. This holds inside an event
too, while a report ends the attempt of the current call. -/
structure ClassQueuesCoherent (s : State) : Prop where
  /-- QUEUED and ACTIVE slots stand in the queue of their class, and no other slot in any queue (R48) -/
  member : ∀ (n : SlotId) (c : Fin 4), n ∈ s.calls.queues[c] ↔ s.calls.slots[n].open = true ∧ s.calls.slots[n].cls = c
  /-- exactly once (R48) -/
  once : ∀ c : Fin 4, s.calls.queues[c].Nodup
  /-- an ACTIVE slot is the head of its queue (R47) -/
  head : ∀ n : SlotId, s.calls.slots[n].state = .active → s.calls.queues[s.calls.slots[n].cls].head? = some n
  /-- the chain successor is the head of its queue (R68) -/
  successor : ∀ n : SlotId, s.calls.successor = some n → s.calls.queues[s.calls.slots[n].cls].head? = some n

/-- Slots, class queues, Completion Queue and current call agree. -/
structure QueuesCoherent (s : State) : Prop extends ClassQueuesCoherent s where
  /-- the records are those of the DONE slots (R47, R62) -/
  records : ∀ n : SlotId, n ∈ s.calls.cq.map Completion.slot ↔ s.calls.slots[n].state = .done
  recordsOnce : (s.calls.cq.map Completion.slot).Nodup
  /-- a FREE slot is clear (R47, R63) -/
  free : ∀ n : SlotId, s.calls.slots[n].state = .free → s.calls.slots[n] = {}
  /-- an outcome stands exactly in DONE and HARVESTED slots (R60) -/
  outcome : ∀ n : SlotId, s.calls.slots[n].outcome.isSome = s.calls.slots[n].decided
  /-- the current call is ACTIVE, and there is one exactly while an own call is under way (R49) -/
  current : ∀ n : SlotId, s.calls.current = some n → s.calls.slots[n].state = .active
  underWay : s.calls.current.isSome = ownCall s.link.act

/-- Whether a call is a CLAIM or a RELEASE. -/
def isSessionCall (x : Slot) : Bool := x.kind = Config.kindClaim || x.kind = Config.kindRelease

/-- The Session Stack holds at most 6 entries with distinct nodes; the session gate is held by the one ACTIVE CLAIM or
RELEASE, for which the start checks still hold (R70, R71). -/
structure SessionsCoherent (s : State) : Prop where
  depth : s.sess.stack.length ≤ Config.stackLimit
  nodes : (s.sess.stack.map SessEntry.node).Nodup
  gate : ∀ n : SlotId, s.sess.gate = some n ↔ s.calls.slots[n].state = .active ∧ isSessionCall s.calls.slots[n] = true
  claim : ∀ n : SlotId, s.sess.gate = some n → s.calls.slots[n].kind = Config.kindClaim →
    s.sess.stack.length < Config.stackLimit ∧ s.calls.slots[n].dest ∉ s.sess.stack.map SessEntry.node
  release : ∀ n : SlotId, s.sess.gate = some n → s.calls.slots[n].kind = Config.kindRelease →
    s.sess.stack.head?.map SessEntry.node = some s.calls.slots[n].dest

/-- A tag in use equals its destination's table entry, no two unfinished calls to one destination hold tags, and entry 0
reads 0 (R50 condition 7, R56, R57). -/
structure TagsCoherent (s : State) : Prop where
  zero : s.calls.tags[0] = 0
  dest : ∀ n : SlotId, s.calls.slots[n].open = true → s.calls.slots[n].dest ≠ 31
  unicast : ∀ n : SlotId, s.calls.slots[n].tag.isSome = true → s.calls.slots[n].dest ≠ 0
  started : ∀ n : SlotId, s.calls.slots[n].state = .queued → s.calls.slots[n].tag = none
  entry : ∀ (n : SlotId) (t : BitVec 4), s.calls.slots[n].open = true → s.calls.slots[n].tag = some t →
    s.tagOf s.calls.slots[n].dest = t
  interlock : ∀ n m : SlotId, n ≠ m → s.calls.slots[n].open = true → s.calls.slots[m].open = true →
    s.calls.slots[n].dest = s.calls.slots[m].dest →
    (s.calls.slots[n].tag.isSome = true ∨ (s.calls.current = some n ∧ s.calls.slots[n].dest ≠ 0)) →
    s.calls.slots[m].tag = none

/-- Whether contention has been won by the own call under way. -/
def wonCall : Activity → Bool
  | .transmitting .call _ | .awaiting _ | .listening (some _) => true
  | _ => false

/-- Attempts stay within the budget, losses within their range, and backoff timers and pending cancellations belong to
the calls that caused them (R52 to R55, R65). -/
structure AttemptsBounded (s : State) : Prop where
  attempts : ∀ n : SlotId, s.calls.slots[n].attempts ≤ s.calls.slots[n].budget.toNat + 1
  waiting : ∀ n : SlotId, s.calls.slots[n].open = true → (s.calls.current ≠ some n ∨ wonCall s.link.act = false) →
    s.calls.slots[n].attempts ≤ s.calls.slots[n].budget.toNat
  won : ∀ n : SlotId, s.calls.current = some n → wonCall s.link.act = true → 1 ≤ s.calls.slots[n].attempts
  losses : ∀ n : SlotId, s.calls.slots[n].losses ≤ 255
  cancel : ∀ n : SlotId, s.calls.slots[n].cancelPending = true → s.calls.current = some n
  backoff : ∀ c : Fin 4, s.calls.backoff[c].isSome = true →
    ∃ n : SlotId, s.calls.slots[n].state = .active ∧ s.calls.slots[n].cls = c ∧ s.calls.current ≠ some n

end Sys2Proof.Safety
end

