-- ==== Sys2Proof/WellFormed.lean ====
section
/-! DEFINITION. When a command is well-formed: its operands name what its row of the table is about. Every operand
that has a fixed width has it in its type; three rows need a check. An ill-formed command is no other behaviour of
the controller (log 19). -/

namespace Sys2Proof

/-- Whether a register has a write row of its own in the table, so that REGISTER_WRITE is not about it. -/
def Reg.hasWriteRow : Reg → Bool
  | .sctl | .cmdw | .evst | .ident | .linkcfg | .tickdiv | .quota | .routecfg | .hmark _ | .holdcfg | .holdmrg
  | .dozecfg | .board _ => true
  | _ => false

/-- The checks on operands: BAD_CODE carries an undefined code (R165), REGISTER_WRITE is about "any other register"
(R164), MIRROR_EXPIRY names an entry 1..6 (R76). -/
def Instr.wellFormed : Instr → Bool
  | .badCode code => !commandCodes.contains code
  | .registerWrite off _ => !(regAt off).any Reg.hasWriteRow
  | .mirrorExpiry k => 1 ≤ k && k ≤ Config.stackLimit
  | _ => true

end Sys2Proof
end

