-- ==== Sys2Proof/Certificates/Slice0/Obligations.lean ====
section
/-! DEFINITION. The statements about the model, for the provers. Each docstring names the rules of spec/ it is about;
"model's choice" marks a statement that rests on an entry of the assumption log.

A statement about a host access says what the access itself leaves, and then `afterHost`, the end of its event; one
about a line event or an expiry says what it leaves, and then `endEvent`. What the end of an event does is said once,
by EndOfEvent and SelectionOrder. Events share an HCLK edge in the order of R132: where a statement says what an event does
`now`, it speaks of the state `s` in which that event finds the controller. `hostEdge now` has the expiries of the edge
behind it, which come before a host access; `lineEdge now` has them still before it, unless the edge has seen an event
already; `timerEdge now` is where an expiry finds it. `now.inReset = false` says that RESET# is high; what happens while it is low is said by
HardResetState. -/

open Sys2Proof Sys2Proof.Machine Sys2Proof.Safety

/-! ## The machine -/

/-- A step with a command at the front of the queue is that command's meaning on the state with the queue's rest; every
meaning answers a next state and leaves the queue alone (model's choice, logs 1 and 4; R132). -/
def Obligations.StepRunsFrontCommand : Prop :=
  ∀ (c : Instr) (rest : List Instr) (s : State),
    step { s with pending := c :: rest } = exec c { s with pending := rest } ∧
    ∃ t, exec c s = .next t ∧ t.pending = s.pending

/-- With nothing waiting a step is what time brings (model's choice, log 2). What is due on the present HCLK edge expires,
one expiry after another in the order of R132, each acting on what those before it left; it has waited for the line event
of the edge, which comes first. Where nothing is due, the next edge begins. Every running timer then counts one cycle, and
so do the age of the own call and that of a low line; the own cell in progress ends when its length has passed since its
falling edge as observed, and the next one begins then and at no other moment, its edge being another node's where that
came within 0.5 bt before (the 0.5 bt for cells other than the lead cell: model's choice, log 34); SLINE is low while the
controller or another node drives it, its falling edge starts the stuck timer and its rising edge stops it; a pulse takes
the free bus once it has lasted 0.5 bt or has ended; a decided answer that had not begun on an edge with SLINE low is
given up; nothing else changes (R1, R2, R5, R9, R27, R39, R131, R134). What the other nodes drive is read from
`line.others` (model's choice, log 5). -/
def Obligations.EmptyQueueCountsOneCycle : Prop :=
  ∀ s : State, s.pending = [] → s.inReset = false →
    (dueRows s ≠ [] → step s = .next (hostEdge s)) ∧ (∀ e, dueRows s = [e] → step s = exec e s) ∧
    (dueRows s = [] →
    let tick : Option Timer → Option Timer := Option.map (Timer.tick s.div)
    let quarters : Nat → Nat := fun q => q * s.bt / 4
    let l := s.link.line
    -- the own cell: its number and age after this cycle, and whether the controller then drives the line low
    let bits : Parcel → Nat := fun p => 42 + 8 * p.payload.length
    let ends : Parcel → Prop := fun p => (l.cell = 0 ∧ quarters 12 ≤ l.cellAge + 1) ∨
      (1 ≤ l.cell ∧ l.cell ≤ bits p ∧ s.bt ≤ l.cellAge + 1)
    let low : Parcel → Nat → Nat := fun p k =>
      if k = 0 then quarters 8
      else if k ≤ bits p then (if p.bits[k - 1]? = some true then quarters 1 else quarters 3)
      else if k = bits p + 1 then quarters 6 else 0
    let own := ownOnLine s.link.act
    let cell := if ∃ p ∈ own, ends p then l.cell + 1 else l.cell
    let edge : Nat := match l.low with
      | some a => if a + 1 < quarters 2 then a + 1 else 0
      | none => 0
    let age := if own = none then l.cellAge else if ∃ p ∈ own, ends p then edge else l.cellAge + 1
    let drives : Prop := ∃ p ∈ own, age < low p cell
    -- the line, and a falling edge on it
    let pulled := l.others.headD false
    let level : Prop := pulled = true ∨ drives
    let falls : Prop := l.low = none ∧ level
    let line : Line :=
      { others := l.others.tail
        pulled := pulled
        low := if level then some ((l.low.map (· + 1)).getD 0) else none
        stuck :=
          if falls then
            (if s.link.act = .off ∨ s.link.act = .stuck then none
             else Timer.start s.div (s.cfg.linkcfg.stuckLimit.toNat * 100))
          else if l.low ≠ none ∧ ¬ level then none else tick l.stuck
        cell := cell
        cellAge := age }
    let t : State := { s with
      link := { s.link with
        line := line
        callAge := s.link.callAge.map (· + 1)
        act := match s.link.act with
          | .answering a false => if l.low ≠ none then .pulse else .answering a false
          | act => act
        bus := if s.link.act = .idle ∧ s.link.bus = .free ∧ (∃ a ∈ l.low, ¬ level ∨ quarters 2 ≤ a + 1) then .busy
          else s.link.bus }
      calls := { s.calls with backoff := s.calls.backoff.map tick }
      sess := { s.sess with
        stack := s.sess.stack.map fun e => { e with mirror := tick e.mirror }, leaseTimer := tick s.sess.leaseTimer }
      hold := { s.hold with timers := s.hold.timers.map tick, refresh := tick s.hold.refresh }
      doze := { s.doze with idle := tick s.doze.idle }
      events := { s.events with edgeRaised := 0, edgeWoken := false, edgeBegun := false, edgeFell := decide falls } }
    step s = .next t)

/-- A timer set to run N µs, N not 0, reaches its end after exactly N × (TICKDIV + 1) HCLK cycles and not before
(R131). -/
def Obligations.TimerRunsItsFullTime : Prop :=
  ∀ (d n : Nat), 0 < n →
    ∃ t₀, Timer.start d n = some t₀ ∧
      ((Timer.tick d)^[n * (d + 1)] t₀).due = true ∧
      ∀ k, k < n * (d + 1) → ((Timer.tick d)^[k] t₀).due = false

/-! ## Words and parcels -/

/-- A parcel that a node sends alone is received as that parcel: good, or malformed if it breaks a form rule (R2, R3,
R4, R7, R8, R17). The bit time is at least 8 HCLK cycles by R24 and R130. -/
def Obligations.ParcelWireRoundTrip : Prop :=
  ∀ (bt : Nat) (p : Parcel), 8 ≤ bt → p.payload.length ≤ Config.maxPayload →
    receive bt (p.wire bt) = some (if p.malformed then .malformed p else .good p)

/-- The arbitration key is class, destination, kind and source as one number, and of two parcels the one with the lower
key sends 0 at the first bit where they differ, inside the arbitration field (R9). -/
def Obligations.LowestKeyWinsContention : Prop :=
  ∀ p q : Parcel,
    p.key = p.cls.toNat * 2 ^ 14 + p.dest.toNat * 2 ^ 9 + p.kind.toNat * 2 ^ 5 + p.source.toNat ∧
    (p.key < q.key → ∃ i, i < Config.arbitrationBits ∧ p.bits.take i = q.bits.take i ∧
      p.bits[i]? = some false ∧ q.bits[i]? = some true)

/-- A host write does what the row of the table that it performs does, at every offset and for every word; a host read
returns the register at its offset, and 0 at an offset that names none (R164, R165, R167). -/
def Obligations.HostWritesAreTheirRows : Prop :=
  ∀ (off : BitVec 10) (w : Word) (now s : State), now.inReset = false → s = hostEdge now →
    exec (decodeWrite off w) now = .next (afterHost (writeOffset off w s)) ∧
    (∀ r, regAt off = some r → now.readOffset off = s.readReg r) ∧ (regAt off = none → now.readOffset off = 0)

/-- The words that the layouts of section 12.6 give the configuration registers carry every field: reading the fields back
from the word gives the fields (R85, R122, R169, R170), and a table entry read and written back is the same entry (R99,
R149). In every state a read of IDENT, LINKCFG, TICKDIV, QUOTA, HOLDCFG, HOLDMRG, HMARKn, ROUTECFG and DOZECFG shows their
fields in the bits that their layouts name, and 0 in every other bit (R97, R101, R130, R164), and so does the word of a
routing entry and of a wake filter. The views show the state in the bits that their layouts name, and 0 in every other
bit: SCTL, SSTAT, CMDR, LINKSTAT, SLOTVIEW, CQVIEW, IBVIEW, IBCOUNT, SESSVIEW, CLAIMVIEW, HOLDVIEW, DOZESTAT, CNT and the
four words of board bits (R25, R35, R62, R64, R76, R84, R103, R104, R108, R109, R121, R150, R156, R164, R165, R167, R168,
section 12.7). EVST, EVEN, STAGEH, STAGE, SLOTSEL, IBSEL, TBLSEL, TBLDATA and BOARD read as they are held, CMDW as 0; that
EVST, EVEN and STAGEH hold 0 in the bits without a name is UnnamedBitsClear, which every step keeps. -/
def Obligations.RegisterLayoutsRoundTrip : Prop :=
  (∀ i : Ident, Ident.ofWord i.word = i) ∧ (∀ c : LinkCfg, LinkCfg.ofWord c.word = c) ∧
  (∀ c : HoldCfg, HoldCfg.ofWord c.refreshMargin c.word = c) ∧ (∀ c : DozeCfg, DozeCfg.ofWord c.word = c) ∧
  (∀ (m : HMark) (b : Bool), HMark.ofWord (m.word b) = m) ∧
  (∀ r : Route, r.source ≠ 31 → Route.ofWord r.word = some r) ∧
  (∀ f : WakeFilter, f.source ≠ 31 → WakeFilter.ofWord f.word = some f) ∧
  ∀ s : State,
    -- the field of width `w` from bit `lo` on, and the word of four bytes from byte 4 k on
    let field : Nat → Nat → Nat → Word := fun lo w v => (BitVec.ofNat w v).setWidth 32 <<< lo
    let flag : Nat → Bool → Word := fun lo b => field lo 1 b.toNat
    let bytes : List Byte → Nat → Word := fun bs k => field 24 8 (bs.getD (4 * k) 0).toNat |||
      field 16 8 (bs.getD (4 * k + 1) 0).toNat ||| field 8 8 (bs.getD (4 * k + 2) 0).toNat |||
      field 0 8 (bs.getD (4 * k + 3) 0).toNat
    let ms : Option Timer → Nat := fun t => (t.map fun m => (m.us + 999) / 1000).getD 0
    let outcome : CallOutcome → Nat := fun o => [CallOutcome.acked, .sent, .refused, .deferred, .noAnswer, .answerFault,
      .linkFault, .starved, .cancelled, .chainBroken, .orderFault, .stackFull, .duplicateClaim, .badIdentity,
      .flushed].idxOf o
    let link : Nat := if s.doze.state = .dozing then 9 else match s.link.act with
      | .off => 0 | .settling => 1 | .idle => 2 | .contending _ _ => 3 | .transmitting _ _ => 4 | .awaiting _ => 5
      | .listening _ => 6 | .pulse => 6 | .answering _ _ => 7 | .stuck => 8
    s.readReg .ident = field 0 5 s.cfg.ident.primary.toNat ||| field 8 5 s.cfg.ident.aliasId.toNat |||
      flag 16 s.cfg.ident.claimEn ||| flag 17 s.cfg.ident.repeatEn ||| field 24 8 s.cfg.ident.lease.toNat ∧
    s.readReg .linkcfg = field 0 2 s.cfg.linkcfg.rate.toNat ||| field 4 4 s.cfg.linkcfg.faultLimit.toNat |||
      field 8 8 s.cfg.linkcfg.stuckLimit.toNat ||| field 16 8 s.cfg.linkcfg.retryDelay.toNat ∧
    s.readReg .tickdiv = field 0 10 s.cfg.tickdiv.toNat ∧
    s.readReg .quota = field 0 8 s.cfg.quota[0].toNat ||| field 8 8 s.cfg.quota[1].toNat |||
      field 16 8 s.cfg.quota[2].toNat ||| field 24 8 s.cfg.quota[3].toNat ∧
    s.readReg .holdcfg = flag 0 s.cfg.holdcfg.inEn ||| flag 1 s.cfg.holdcfg.outEn ||| flag 2 s.cfg.holdcfg.noRelease |||
      field 16 16 s.cfg.holdcfg.holdTime.toNat ∧
    s.readReg .holdmrg = field 0 16 s.cfg.holdcfg.refreshMargin.toNat ∧
    (∀ n : Fin 4, s.readReg (.hmark n) = field 0 6 s.cfg.hmark[n].high.toNat ||| field 8 6 s.cfg.hmark[n].low.toNat |||
      field 16 4 s.cfg.hmark[n].classes.toNat ||| flag 31 s.hold.holding[n]) ∧
    s.readReg .routecfg = field 0 2 ([RouteAction.deliver, .discard, .refuse].idxOf s.cfg.routecfg.action) |||
      field 4 2 s.cfg.routecfg.inbox.val ∧
    s.readReg .dozecfg = flag 0 s.cfg.dozecfg.auto ||| flag 1 s.cfg.dozecfg.answerInDoze |||
      flag 2 s.cfg.dozecfg.rouseWake ||| flag 3 s.cfg.dozecfg.submitWake ||| field 8 8 s.cfg.dozecfg.dozeIdle.toNat ∧
    (∀ r : Route, r.word = field 0 5 r.source.toNat ||| field 8 3 r.idset.toNat ||| field 12 4 r.classes.toNat |||
      field 16 2 r.inbox.val ||| field 20 2 ([RouteAction.deliver, .discard, .refuse].idxOf r.action) |||
      flag 31 r.valid) ∧
    (∀ f : WakeFilter, f.word = field 0 5 f.source.toNat ||| field 8 8 f.pattern.toNat ||| field 16 8 f.mask.toNat |||
      field 24 3 f.idset.toNat ||| flag 31 f.valid) ∧
    s.readReg .sctl = flag 0 (decide (s.link.act ≠ .off)) ||| flag 1 s.sctl.intakeEn ||| flag 4 s.sctl.irqEn |||
      flag 5 s.sctl.rdclr ∧
    s.readReg .sstat = field 0 4 link ||| flag 4 s.link.quarantine |||
      field 5 2 ([DozeState.awake, .pending, .dozing].idxOf s.doze.state) ||| flag 7 s.hold.manual.isSome |||
      field 8 5 ((List.finRange Config.slotCount).filter fun n => s.calls.slots[n].state = .free).length |||
      field 13 5 s.calls.cq.length ||| field 18 3 s.sess.stack.length ||| flag 21 s.sess.holder.isSome |||
      flag 24 s.hold.timers[0].isSome ||| flag 25 s.hold.timers[1].isSome ||| flag 26 s.hold.timers[2].isSome |||
      flag 27 s.hold.timers[3].isSome ||| field 28 4 s.hold.asserted.toNat ∧
    s.readReg .cmdr = field 0 16 s.host.cmdr.value.toNat ||| field 16 3 ([CmdResult.ok, .badCode, .badArgument,
      .wrongState, .noResource, .empty, .disabled].idxOf s.host.cmdr.result) ||| field 24 8 s.host.cmdr.code.toNat ∧
    s.readReg .linkstat = field 0 4 s.link.lastFault.toNat ||| field 8 4 s.link.faults.toNat |||
      field 16 8 s.link.conflicts.toNat ∧
    (∀ n : SlotId, n.val = s.host.slotsel.toNat →
      let x := s.calls.slots[n]
      let decided := x.state = .done ∨ x.state = .harvested
      s.readReg (.slotview 0) = field 0 3 ([SlotState.free, .queued, .active, .done, .harvested].idxOf x.state) |||
        flag 3 x.cancelPending ||| field 4 4 x.kind.toNat ||| field 8 2 x.cls.val ||| flag 10 x.idsel |||
        flag 11 x.chain ||| field 12 5 x.dest.toNat ||| field 17 6 x.len.toNat ||| field 24 8 x.losses ∧
      s.readReg (.slotview 1) = field 0 4 (if decided then (x.outcome.map outcome).getD 0 else 0) |||
        flag 4 (decide decided) ||| flag 5 x.tag.isSome ||| flag 6 x.reason.isSome ||| field 8 4 x.attempts |||
        field 12 4 (x.tag.getD 0).toNat ||| field 16 8 (x.reason.getD 0).toNat ||| field 24 6 x.answer.length ∧
      ∀ i : Fin 10, 2 ≤ i.val → s.readReg (.slotview i) = bytes x.answer (i.val - 2)) ∧
    (24 ≤ s.host.slotsel.toNat → ∀ i : Fin 10, s.readReg (.slotview i) = 0) ∧
    (s.calls.cq = [] → ∀ i : Fin 2, s.readReg (.cqview i) = 0) ∧
    (∀ r rest, s.calls.cq = r :: rest →
      s.readReg (.cqview 0) = flag 0 true ||| field 8 5 r.slot.val ||| field 16 4 (outcome r.outcome) |||
        field 20 4 r.attempts ||| field 24 8 r.sequence.toNat ∧
      s.readReg (.cqview 1) = field 0 8 r.losses ||| flag 8 r.reason.isSome ||| field 16 8 (r.reason.getD 0).toNat |||
        field 24 6 r.answerLen) ∧
    (∀ n : Fin 4, n.val = s.host.ibsel.toNat →
      (s.intake.inboxes[n] = [] → ∀ i : Fin 10, s.readReg (.ibview i) = flag 0 (decide (i = 0))) ∧
      ∀ r rest, s.intake.inboxes[n] = r :: rest →
        s.readReg (.ibview 0) = field 2 6 r.payload.length ||| field 8 5 r.source.toNat |||
          field 16 2 ([IdHit.primary, .aliasHit, .broadcast].idxOf r.hit) ||| field 20 2 r.cls.toNat |||
          field 24 4 r.tag.toNat ∧
        s.readReg (.ibview 1) = field 0 16 r.arrival.toNat ∧
        ∀ i : Fin 10, 2 ≤ i.val → s.readReg (.ibview i) = bytes r.payload (i.val - 2)) ∧
    s.readReg .ibcount = field 0 8 s.intake.inboxes[0].length ||| field 8 8 s.intake.inboxes[1].length |||
      field 16 8 s.intake.inboxes[2].length ||| field 24 8 s.intake.inboxes[3].length ∧
    s.readReg (.sessview 0) = field 0 3 s.sess.stack.length ||| flag 8 s.sess.gate.isSome |||
      field 16 5 ((s.sess.gate.map Fin.val).getD 0) ∧
    (∀ k : Fin 7, k ≠ 0 →
      (s.sess.stack.length < k.val → s.readReg (.sessview k) = 0) ∧
      ∀ e, k.val ≤ s.sess.stack.length → s.sess.stack[s.sess.stack.length - k.val]? = some e →
        s.readReg (.sessview k) = field 0 5 e.node.toNat ||| field 8 5 e.identity.toNat ||| flag 15 e.lapsed |||
          field 16 8 e.lease.toNat ||| field 24 8 (ms e.mirror)) ∧
    s.readReg .claimview = field 0 5 (s.sess.holder.getD 0).toNat |||
      flag 7 (s.sess.holder.isSome && s.sess.leaseTimer.isNone) ||| field 8 8 (ms s.sess.leaseTimer) |||
      field 16 2 ([EndCause.none, .released, .expired, .broken].idxOf s.sess.lastEnd) ∧
    (∀ n : Fin 4, s.readReg (.holdview n) = field 0 24 ((s.hold.timers[n].map Timer.us).getD 0) |||
      flag 28 (s.hold.pendAssert.getLsbD n) ||| flag 29 (s.hold.pendRelease.getLsbD n)) ∧
    s.readReg .dozestat = field 0 4 s.doze.causes.toNat |||
      field 8 2 (if s.doze.causes.getLsbD 2 then s.doze.filter.toNat else 0) ∧
    (∀ i : Fin 8, s.readReg (.cnt i) = field 0 16 s.events.counters[i].toNat) ∧
    s.readReg .evst = s.events.sticky ||| s.levels ∧ s.readReg .even = s.cfg.even ∧ s.readReg .cmdw = 0 ∧
    s.readReg .stageh = s.host.stageh ∧ (∀ i : Fin 8, s.readReg (.stage i) = s.host.stage[i]) ∧
    s.readReg .slotsel = field 0 5 s.host.slotsel.toNat ∧ s.readReg .ibsel = field 0 2 s.host.ibsel.toNat ∧
    s.readReg .tblsel = field 0 8 s.host.tblIndex.toNat ||| field 16 2 s.host.tblTable.toNat ∧
    s.readReg (.tbldata 0) = s.host.tbldata0 ∧ s.readReg (.tbldata 1) = s.host.tbldata1 ∧
    (∀ n : Fin 64, s.readReg (.board n) = if s.board[n].isStaged then s.board[n].staged else s.board[n].committed) ∧
    (∀ (i : Fin 2) (k : Fin 32) (n : Fin 64), n.val = 32 * i.val + k.val →
      (s.readReg (.boardstg i)).getLsbD k = s.board[n].isStaged ∧
      (s.readReg (.boardmod i)).getLsbD k = s.board[n].modified ∧
      (s.readReg (.boardrd i)).getLsbD k = s.board[n].remoteRead ∧
      (s.readReg (.boardwr i)).getLsbD k = s.board[n].remoteWrite)

/-! ## Reset -/

/-- After power-on and RESET# every register holds what section 12.5 says, the link is OFF, the controller awake, every
timer stopped, INT# released, SLINE not driven, and every list empty (R158, section 11.2). From power-on, or the assertion
of RESET#, to the first HCLK edge after RESET# has risen every read returns 0 and nothing has an effect: no host access,
no line event, no expiry, no cycle but for the level of the pin; then the state is the one after reset. RESET is that
assertion while RESET# is high, and that rise while it is low (model's choice, log 10). -/
def Obligations.HardResetState : Prop :=
  ∀ s : State,
    let line : Line := { lineReleased s with stuck := none, cell := 0, cellAge := 0 }
    (∀ c : Instr, c = .reset ∨ c = .powerOn → ∃ t, exec c s = .next t ∧ t.pending = s.pending ∧
      (∀ r : Reg, t.readReg r = resetValue r) ∧ t.link.act = .off ∧ t.doze.state = .awake ∧ timersStopped t ∧
      t.events.intLow = false ∧ t.calls = {} ∧ t.sess = {} ∧ t.intake = {} ∧ t.hold = {} ∧
      (∀ i : Fin 16, t.cfg.routes[i] = {}) ∧ (∀ i : Fin 4, t.cfg.filters[i] = {}) ∧ (∀ i : Fin 64, t.board[i] = {}) ∧
      t.link = { line := line } ∧ ownOnLine t.link.act = none ∧
      t.inReset = (if c = .powerOn then true else !s.inReset)) ∧
    (s.inReset = true →
      (∀ off, s.readOffset off = 0) ∧
      (∀ c : Instr, c ≠ .reset → c ≠ .powerOn → c ≠ .evstReadClear → exec c s = .next s) ∧
      exec .evstReadClear s = .next { s with host := { s.host with readData := 0 } } ∧
      (s.pending = [] →
        let pulled := s.link.line.others.headD false
        step s = .next { s with link := { s.link with line := { s.link.line with
          others := s.link.line.others.tail
          pulled := pulled
          low := if pulled then some ((s.link.line.low.map (· + 1)).getD 0) else none } } }))

/-- SOFT_RESET keeps the configuration, the tables, the selections and staging registers, IRQ_EN and RDCLR, and the
committed values and attributes of the board; it clears the board's flags, releases SLINE and returns all else to its
value after reset, raising nothing (R159, section 11.2). -/
def Obligations.SoftResetKeepsConfiguration : Prop :=
  ∀ now s : State, now.inReset = false → s = hostEdge now →
    ∃ t, exec .softReset now = .next t ∧ t.pending = s.pending ∧ t.cfg = s.cfg ∧
    t.sctl = { s.sctl with intakeEn := false } ∧ t.host = { s.host with cmdr := {} } ∧
    (∀ i : Fin 64, t.board[i] = { s.board[i] with isStaged := false, modified := false }) ∧
    t.link = { line := { lineReleased s with stuck := none, cell := 0, cellAge := 0 } } ∧ t.inReset = false ∧
    t.calls = {} ∧ t.sess = {} ∧ t.intake = {} ∧ t.hold = {} ∧ t.doze = {} ∧ t.events = {}

/-! ## Host writes -/

/-- REGISTER_WRITE: a plain register takes the named bits of the word, and no other stored register changes; a
read-only register or an unmapped offset ignores the write (R164). -/
def Obligations.RegisterWriteReadsBack : Prop :=
  ∀ (off : BitVec 10) (w : Word) (now s : State), now.inReset = false → s = hostEdge now →
    (∀ r, regAt off = some r → isPlain r = true → ∃ t, exec (.registerWrite off w) now = .next t ∧
      t.readReg r = w &&& storedBits r ∧
      (∀ r', r' ≠ r → isStored r' = true → t.readReg r' = s.readReg r') ∧
      t = afterHost { s with cfg := { s.cfg with even := t.cfg.even }, host := t.host, board := t.board } ∧
      t.host.cmdr = s.host.cmdr ∧ t.host.readData = s.host.readData ∧
      (∀ i : Fin 64, t.board[i] =
        { s.board[i] with remoteRead := t.board[i].remoteRead, remoteWrite := t.board[i].remoteWrite })) ∧
    (((∃ r, regAt off = some r ∧ isPlain r = false ∧ r.hasWriteRow = false) ∨ regAt off = none) →
      exec (.registerWrite off w) now = .next (afterHost s))

/-- IDENT, LINKCFG, TICKDIV, QUOTA, ROUTECFG, DOZECFG and HMARKn take a write in full, or refuse it in full with
CONFIG_REFUSED, as their rules say; a change of REPEAT_EN empties the repeat records, and an accepted HMARKn is followed
by an evaluation of its inbox while OUT_EN is 1 (R24, R85, R97, R101, R122, R130, R141). -/
def Obligations.ConfigurationTakenOrRefused : Prop :=
  ∀ (n : Fin 4) (w : Word) (now s : State), now.inReset = false → s = hostEdge now →
    (exec (.identWrite w) now = .next (afterHost (
      let i : Ident := ⟨w.extractLsb' 0 5, w.extractLsb' 8 5, w.getLsbD 16, w.getLsbD 17, w.extractLsb' 24 8⟩
      if s.linkEn = true ∨ (i.primary ≠ 0 ∧ i.aliasId = i.primary) ∨ i.primary = 31 ∨ i.aliasId = 31 then
        raise .configRefused s
      else { s with
        cfg := { s.cfg with ident := i }
        intake := { s.intake with
          repeats := if i.repeatEn = s.cfg.ident.repeatEn then s.intake.repeats else Vector.replicate _ none } }))) ∧
    (exec (.linkcfgWrite w) now = .next (afterHost (
      if s.linkEn = true ∧ w.extractLsb' 0 2 ≠ s.cfg.linkcfg.rate then raise .configRefused s
      else { s with cfg := { s.cfg with linkcfg := {
        rate := w.extractLsb' 0 2, faultLimit := w.extractLsb' 4 4, stuckLimit := w.extractLsb' 8 8,
        retryDelay := w.extractLsb' 16 8 } } }))) ∧
    (exec (.tickdivWrite w) now = .next (afterHost (
      if s.linkEn = true ∨ (w.extractLsb' 0 10).toNat < 7 then raise .configRefused s
      else { s with cfg := { s.cfg with tickdiv := w.extractLsb' 0 10 } }))) ∧
    (exec (.quotaWrite w) now = .next (afterHost (
      if s.sctl.intakeEn = false ∧
          (w.extractLsb' 0 8).toNat + (w.extractLsb' 8 8).toNat + (w.extractLsb' 16 8).toNat +
            (w.extractLsb' 24 8).toNat ≤ 40 ∧
          (∀ n : Fin 4, s.intake.inboxes[n].length ≤ (w.extractLsb' (8 * n.val) 8).toNat) then
        { s with cfg := { s.cfg with quota := #v[w.extractLsb' 0 8, w.extractLsb' 8 8, w.extractLsb' 16 8,
          w.extractLsb' 24 8] } }
      else raise .configRefused s))) ∧
    (exec (.routecfgWrite w) now = .next (afterHost (
      if w.extractLsb' 0 2 = 3#2 then raise .configRefused s
      else { s with cfg := { s.cfg with routecfg := {
        action := if w.extractLsb' 0 2 = 0#2 then .deliver else if w.extractLsb' 0 2 = 1#2 then .discard else .refuse
        inbox := (w.extractLsb' 4 2).toFin } } }))) ∧
    (exec (.dozecfgWrite w) now = .next (afterHost (
      if w.extractLsb' 8 8 = 0#8 then raise .configRefused s
      else { s with cfg := { s.cfg with dozecfg := {
        auto := w.getLsbD 0, answerInDoze := w.getLsbD 1, rouseWake := w.getLsbD 2, submitWake := w.getLsbD 3,
        dozeIdle := w.extractLsb' 8 8 } } }))) ∧
    let high : BitVec 6 := w.extractLsb' 0 6
    let low : BitVec 6 := w.extractLsb' 8 6
    let m : HMark := { high := high, low := low, classes := w.extractLsb' 16 4 }
    let written : State := { s with cfg := { s.cfg with hmark := s.cfg.hmark.set n m } }
    exec (.hmarkWrite n w) now = .next (afterHost (
      if high = 0 ∨ 40 < high.toNat ∨ low = 0 ∨ 40 < low.toNat then raise .configRefused s
      else if s.cfg.holdcfg.outEn then evalInbox n written else written))

/-- An evaluation of an inbox with OUT_EN 1: CLEAR becomes HOLDING at HIGH, HOLDING becomes CLEAR at the effective low
mark; the asserted set becomes the union of the classes of the inboxes in HOLDING, each class that joins it becomes
pending assertion and each that leaves it pending release unless NO_RELEASE is 1, and when it becomes empty the refresh
timer stops (R122, R123). With OUT_EN 0 nothing is evaluated. -/
def Obligations.EvaluationMovesClasses : Prop :=
  ∀ (n : Fin 4) (s : State),
    (s.cfg.holdcfg.outEn = false → evalInbox n s = s) ∧
    (s.cfg.holdcfg.outEn = true →
      let m := s.cfg.hmark[n]
      let low := if m.high.toNat ≤ m.low.toNat then m.high.toNat - 1 else m.low.toNat
      let t := evalInbox n s
      t = { s with hold := t.hold } ∧ t.hold.timers = s.hold.timers ∧ t.hold.manual = s.hold.manual ∧
      (t.hold.holding[n] = true ↔
        (s.hold.holding[n] = true ∧ low < s.occupancy n) ∨ (s.hold.holding[n] = false ∧ m.high.toNat ≤ s.occupancy n)) ∧
      (∀ k : Fin 4, k ≠ n → t.hold.holding[k] = s.hold.holding[k]) ∧
      (∀ c : Fin 4, t.hold.asserted.getLsbD c = true ↔
        ∃ k : Fin 4, t.hold.holding[k] = true ∧ s.cfg.hmark[k].classes.getLsbD c = true) ∧
      (∀ c : Fin 4,
        let was := s.hold.asserted.getLsbD c
        let is := t.hold.asserted.getLsbD c
        (is = true ∧ was = false → t.hold.pendAssert.getLsbD c = true ∧ t.hold.pendRelease.getLsbD c = false) ∧
        (is = false ∧ was = true → t.hold.pendAssert.getLsbD c = false ∧
          t.hold.pendRelease.getLsbD c = (!s.cfg.holdcfg.noRelease || s.hold.pendRelease.getLsbD c)) ∧
        (is = was → t.hold.pendAssert.getLsbD c = s.hold.pendAssert.getLsbD c ∧
          t.hold.pendRelease.getLsbD c = s.hold.pendRelease.getLsbD c)) ∧
      t.hold.refresh = if t.hold.asserted = 0 ∧ s.hold.asserted ≠ 0 then none else s.hold.refresh)

/-- HOLDCFG and HOLDMRG are never refused: IN_EN from 1 to 0 releases every class; OUT_EN from 1 to 0 clears the inboxes,
the asserted set, the pending assertions and the refresh timer, and makes the classes asserted pending release unless
NO_RELEASE is written 1; OUT_EN from 0 to 1 evaluates every inbox (R118, R120, R126, R170). -/
def Obligations.HoldSettingsTakeEffect : Prop :=
  ∀ (w : Word) (now s : State), now.inReset = false → s = hostEdge now →
    exec (.holdcfgWrite .holdmrg w) now = .next (afterHost { s with cfg := { s.cfg with
      holdcfg := { s.cfg.holdcfg with refreshMargin := w.extractLsb' 0 16 } } }) ∧
    ∃ u, exec (.holdcfgWrite .holdcfg w) now = .next (afterHost u) ∧ u = { s with cfg := u.cfg, hold := u.hold } ∧
      u.cfg = { s.cfg with holdcfg := ⟨w.getLsbD 0, w.getLsbD 1, w.getLsbD 2, w.extractLsb' 16 16,
        s.cfg.holdcfg.refreshMargin⟩ } ∧
      u.hold.manual = s.hold.manual ∧
      (∀ c : Fin 4, u.hold.timers[c] =
        if s.cfg.holdcfg.inEn = true ∧ w.getLsbD 0 = false then none else s.hold.timers[c]) ∧
      (s.cfg.holdcfg.outEn = true → w.getLsbD 1 = false →
        (∀ n : Fin 4, u.hold.holding[n] = false) ∧ u.hold.asserted = 0 ∧ u.hold.pendAssert = 0 ∧
        u.hold.refresh = none ∧
        u.hold.pendRelease = if w.getLsbD 2 then s.hold.pendRelease else s.hold.pendRelease ||| s.hold.asserted) ∧
      (s.cfg.holdcfg.outEn = w.getLsbD 1 → u.hold = { s.hold with timers := u.hold.timers }) ∧
      (s.cfg.holdcfg.outEn = false → w.getLsbD 1 = true →
        u = evalInbox 3 (evalInbox 2 (evalInbox 1 (evalInbox 0
          { s with cfg := u.cfg, hold := { s.hold with timers := u.hold.timers } }))))

/-- Writes of SCTL without SOFT_RESET: every field is taken; LINK_EN 1 in OFF enables the link into SETTLING unless
PRIMARY is 0, which is refused with CONFIG_REFUSED; LINK_EN 0 while enabled abandons the activity, moves the link to OFF
and the Doze Unit to AWAKE; a LINK_EN equal to the present value changes nothing in the Link Engine (R21, R23, R148, R163,
R167). Entry to SETTLING starts the stuck timer where SLINE is low, with the limit as it stands, and a move to OFF stops
it (R134); whether SLINE is low is what the model knows of the pin (model's choice, log 5). -/
def Obligations.LinkEnabledAndDisabled : Prop :=
  ∀ (f : SctlFields) (now s : State), now.inReset = false → s = hostEdge now →
    let u := { s with sctl := { intakeEn := f.intakeEn, irqEn := f.irqEn, rdclr := f.rdclr } }
    exec (.linkEnable f) now = .next (afterHost (
      if s.link.act ≠ .off then u
      else if s.cfg.ident.primary = 0 then raise .configRefused u
      else { u with link := { s.link with act := .settling, bus := .ignoring, line := { s.link.line with
        stuck := if s.link.line.low.isSome then Timer.start s.div (s.cfg.linkcfg.stuckLimit.toNat * 100)
          else none } } })) ∧
    exec (.linkDisable f) now = .next (afterHost (
      if s.link.act = .off then u
      else { abandon u with
        link := { (abandon u).link with act := .off, bus := .ignoring, line := { lineReleased s with stuck := none } }
        doze := { s.doze with state := .awake } }))

/-- What the abandonment of the Link Engine's activity leaves: a call in contention is the current call no longer, with
nothing counted; an attempt that won contention is withdrawn, its count falling by 1; with a cancellation pending the
call ends CANCELLED; a HOLD request, an answer and a received parcel leave nothing changed (R22, R52, R55, R66, R124). -/
def Obligations.AbandonmentWithdraws : Prop :=
  ∀ s : State,
    (∀ n, s.calls.current = some n →
      let x := s.calls.slots[n]
      let u := { s with calls := { s.calls with current := none }, link := { s.link with callAge := none } }
      let less := { u with calls := { u.calls with
        slots := s.calls.slots.set n { x with attempts := x.attempts - 1 } } }
      (∀ p, s.link.act = .contending .call p →
        abandon s = if x.cancelPending then decideOutcome n .cancelled 0 u else u) ∧
      ((∃ p, s.link.act = .transmitting .call p ∨ s.link.act = .awaiting p ∨ s.link.act = .listening (some p)) →
        abandon s = if x.cancelPending then decideOutcome n .cancelled 0 less else less)) ∧
    (ownCall s.link.act = false → abandon s = s)

/-- A write of EVST clears the sticky bits written as 1 but those raised on its own edge, and nothing while RDCLR is 1; a
read of EVST returns its bits and clears the sticky ones while RDCLR is 1 (R153, R154). The level bits are no storage:
CQ_READY reads 1 exactly while the Completion Queue holds a record, INBOXn_READY while inbox n does, and bits 31:27 read 0
(R62, R103, R151). An event
that is raised sets its own bit, 5 to 26, and changes nothing else (R151). A counter that gains 1 stays at 65535, raises
COUNTER_HALF when it goes from 32767 to 32768 and at no other increment, and changes nothing else (R156). COUNTERS_CLEAR
sets the eight counters to 0, returns OK with value 0, and changes no bit of EVST, no field of LINKSTAT and not DOZESTAT
(R157); the end of its event may do so afterwards. The expiries of the edge come before the access (R132). Which events
share the edge and where the word read is kept are the model's choices (logs 7 and 12). -/
def Obligations.EventsAndCountersCleared : Prop :=
  ∀ (w : Word) (e : Edge) (now s : State), now.inReset = false → s = hostEdge now →
    exec (.evstWrite w e) now = .next (afterHost (
      if s.sctl.rdclr then s
      else { s with events := { s.events with sticky :=
        s.events.sticky &&& ~~~(w &&& ~~~(if e = .shared then s.events.edgeRaised else 0)) } })) ∧
    exec .evstReadClear now = .next (afterHost { s with
      host := { s.host with readData := s.events.sticky ||| s.levels }
      events := { s.events with sticky := if s.sctl.rdclr then 0 else s.events.sticky } }) ∧
    (s.readReg .evst = s.events.sticky ||| s.levels ∧ (s.levels.getLsbD 0 = true ↔ s.calls.cq ≠ []) ∧
      (∀ n : Fin 4, s.levels.getLsbD (n.val + 1) = true ↔ s.intake.inboxes[n] ≠ []) ∧
      (∀ i, 5 ≤ i → s.levels.getLsbD i = false) ∧
      (UnnamedBitsClear s → ((s.readReg .evst).getLsbD 0 = true ↔ s.calls.cq ≠ []) ∧
        (∀ n : Fin 4, (s.readReg .evst).getLsbD (n.val + 1) = true ↔ s.intake.inboxes[n] ≠ []) ∧
        ∀ i, 27 ≤ i → (s.readReg .evst).getLsbD i = false)) ∧
    (let order : List Event := [.inboxDeferred, .inboxDropped, .holdIn, .holdOut, .lineStuck, .lineBack, .quarantine,
      .nodeConflict, .answerFault, .unsolicited, .claimTaken, .claimEnded, .leaseLapsed, .sessionFault, .boardSwapped,
      .publishConflict, .dozeEntered, .woken, .cmdError, .configRefused, .counterHalf, .repeatSeen]
     ∀ v : Event, v ∈ order ∧
      let bit : Word := 1#32 <<< (5 + order.idxOf v)
      raise v s = { s with events := { s.events with
        sticky := s.events.sticky ||| bit, edgeRaised := s.events.edgeRaised ||| bit } }) ∧
    (let order : List Counter :=
      [.txParcels, .rxParcels, .rxCheckErrors, .arbLosses, .markFaults, .malformed, .inboxDrops, .repeats]
     ∀ (c : Counter) (i : Fin 8), order.idxOf c = i.val →
      let old := s.events.counters[i]
      let counted : State := { s with events := { s.events with
        counters := s.events.counters.set i (if old = 65535#16 then 65535#16 else old + 1) } }
      count c s = if old = 32767#16 then raise .counterHalf counted else counted) ∧
    (∃ u, exec .countersClear now = .next (afterHost (commandOk 0x28 0 u)) ∧
    (∀ i : Fin 8, u.events.counters[i] = 0) ∧ u = { s with events := { s.events with counters := u.events.counters } } ∧
    u.readReg .evst = s.readReg .evst ∧ u.readReg .linkstat = s.readReg .linkstat ∧
    u.readReg .dozestat = s.readReg .dozestat)

/-- A write of BOARDn stages its word, which a read of BOARDn then returns; the committed value, the remote-modified
flag, the attributes and every other entry are unchanged; a read of BOARDn in any state returns the staged value while the
staged flag is set and the committed value otherwise (R107). -/
def Obligations.BoardWriteStages : Prop :=
  ∀ (n : Fin 64) (w : Word) (now s : State), now.inReset = false → s = hostEdge now →
    ∃ t, exec (.boardWrite n w) now = .next t ∧ t.readReg (.board n) = w ∧
      t = afterHost { s with board := s.board.set n { s.board[n] with staged := w, isStaged := true } } ∧
      t.board = s.board.set n { s.board[n] with staged := w, isStaged := true } ∧
      s.readReg (.board n) = if s.board[n].isStaged then s.board[n].staged else s.board[n].committed

/-! ## Commands: calls -/

/-- SUBMIT of a descriptor that passes every check, with a slot free: the lowest FREE slot takes the descriptor and LEN
payload bytes, QUEUED at the tail of its class queue, and the slot number is returned (R44, R46). While DOZING with
SUBMIT_WAKE 1 it also wakes the controller (R146). -/
def Obligations.SubmitQueuesCall : Prop :=
  ∀ (e : Edge) (now s : State) (n : SlotId), now.inReset = false → s = hostEdge now →
    s.submitCheck = none → s.calls.slots[n].state = .free →
    (∀ m : SlotId, m < n → s.calls.slots[m].state ≠ .free) →
    let h := s.host
    let c : Fin 4 := (h.stageh.extractLsb' 4 2).toFin
    ∃ (x : Slot) (u : State), exec (.submit e) now = .next (afterHost (commandOk 0x01 (BitVec.ofNat 16 n.val) u)) ∧
      { u with doze := s.doze, events := s.events } = { s with calls := { s.calls with
        slots := s.calls.slots.set n x, queues := s.calls.queues.set c (s.calls.queues[c] ++ [n]) } } ∧
      x = { ({} : Slot) with
        state := .queued, kind := h.stageh.extractLsb' 0 4, cls := c, idsel := h.stageh.getLsbD 6,
        chain := h.stageh.getLsbD 7, dest := h.stageh.extractLsb' 8 5, budget := h.stageh.extractLsb' 13 3,
        len := h.stageh.extractLsb' 16 6, ceiling := h.stageh.extractLsb' 24 8, payload := x.payload } ∧
      x.payload.length = x.len.toNat ∧
      (∀ (k : Nat) (hk : k < 32), k < x.len.toNat →
        x.payload[k]? = some ((h.stage[k / 4]'(by omega)).extractLsb' (24 - 8 * (k % 4)) 8)) ∧
      (u.doze, u.events) =
        (if s.cfg.dozecfg.submitWake = true ∧ s.doze.state = .dozing then
          ((wakeUp .submit s).doze, (wakeUp .submit s).events)
        else if s.cfg.dozecfg.submitWake = true ∧ e = .shared ∧ s.events.edgeWoken = true ∧ s.doze.state = .awake then
          ((addCause .submit s).doze, s.events)
        else (s.doze, s.events))

/-- SUBMIT returns BAD_ARGUMENT with the number of the first check of R45 that the staged descriptor fails, and
NO_RESOURCE where every slot is taken; both change nothing else (R45, R46). -/
def Obligations.SubmitRefused : Prop :=
  ∀ (e : Edge) (now s : State), now.inReset = false → s = hostEdge now →
    let w := s.host.stageh
    let kind : BitVec 4 := w.extractLsb' 0 4
    let dest : BitVec 5 := w.extractLsb' 8 5
    let len := (w.extractLsb' 16 6).toNat
    let i := s.cfg.ident
    let fails : Nat → Prop := fun k =>
      (k = 1 ∧ kind ∉ [0#4, 1#4, 2#4, 3#4, 4#4, 6#4]) ∨
      (k = 2 ∧ dest = 31) ∨
      (k = 3 ∧ dest = 0 ∧ kind ≠ 0 ∧ kind ≠ 6) ∨
      (k = 4 ∧ ((kind = 0 ∧ 32 < len) ∨ (kind = 1 ∧ len ≠ 2) ∨ (kind = 2 ∧ len ≠ 5) ∨
        (kind ∈ [3#4, 4#4, 6#4] ∧ len ≠ 0))) ∨
      (k = 5 ∧ kind ≠ 4 ∧ w.getLsbD 6 = true ∧ i.aliasId = 0) ∨
      (k = 6 ∧ dest ≠ 0 ∧ (dest = i.primary ∨ dest = i.aliasId))
    (∀ k, fails k → (∀ j, j < k → ¬ fails j) →
      exec (.submit e) now = .next (afterHost (commandRefused 0x01 .badArgument (BitVec.ofNat 16 k) s))) ∧
    ((∀ k, ¬ fails k) → (∀ n : SlotId, s.calls.slots[n].state ≠ .free) →
      exec (.submit e) now = .next (afterHost (commandRefused 0x01 .noResource 0 s))) ∧
    (s.submitCheck = none ↔ ∀ k, ¬ fails k)

/-- CANCEL completes a QUEUED call, or an ACTIVE one that is not current, as CANCELLED with value 0; it marks the current
call with value 1; in every other state it is refused (R65). -/
def Obligations.CancelByState : Prop :=
  ∀ (arg : BitVec 24) (now s : State), now.inReset = false → s = hostEdge now →
    (24 ≤ (arg.extractLsb' 0 8).toNat →
      exec (.cancel arg) now = .next (afterHost (commandRefused 0x02 .badArgument 0 s))) ∧
    ∀ n : SlotId, n.val = (arg.extractLsb' 0 8).toNat →
      let x := s.calls.slots[n]
      ((x.state = .queued ∨ (x.state = .active ∧ s.calls.current ≠ some n)) →
        exec (.cancel arg) now = .next (afterHost (commandOk 0x02 0 (decideOutcome n .cancelled 0 s)))) ∧
      (x.state = .active → s.calls.current = some n →
        exec (.cancel arg) now = .next (afterHost (commandOk 0x02 1
          { s with calls := { s.calls with slots := s.calls.slots.set n { x with cancelPending := true } } }))) ∧
      (x.state ∈ [SlotState.free, .done, .harvested] →
        exec (.cancel arg) now = .next (afterHost (commandRefused 0x02 .wrongState 0 s)))

/-- CQ_POP removes the head record, makes its slot HARVESTED and returns the slot number; an empty queue is EMPTY
(R62). RETIRE returns a HARVESTED slot to FREE with every field cleared, and is refused for any other slot (R63). -/
def Obligations.SlotsHarvestedAndRetired : Prop :=
  ∀ (arg : BitVec 24) (now s : State), now.inReset = false → s = hostEdge now →
    (s.calls.cq = [] → exec .cqPop now = .next (afterHost (commandRefused 0x04 .empty 0 s))) ∧
    (∀ r rest, s.calls.cq = r :: rest →
      exec .cqPop now = .next (afterHost (commandOk 0x04 (BitVec.ofNat 16 r.slot.val)
        { s with calls := { s.calls with
          cq := rest, slots := s.calls.slots.set r.slot { s.calls.slots[r.slot] with state := .harvested } } }))) ∧
    (24 ≤ (arg.extractLsb' 0 8).toNat →
      exec (.retire arg) now = .next (afterHost (commandRefused 0x03 .badArgument 0 s))) ∧
    ∀ n : SlotId, n.val = (arg.extractLsb' 0 8).toNat →
      (s.calls.slots[n].state = .harvested →
        let cleared : Slot :=
          { state := .free, kind := 0, cls := 0, dest := 0, idsel := false, len := 0, budget := 0, ceiling := 0,
            chain := false, payload := [], attempts := 0, losses := 0, tag := none, reason := none,
            answer := [], outcome := none, cancelPending := false }
        exec (.retire arg) now = .next (afterHost (commandOk 0x03 (BitVec.ofNat 16 n.val)
          { s with calls := { s.calls with slots := s.calls.slots.set n cleared } }))) ∧
      (s.calls.slots[n].state ≠ .harvested →
        exec (.retire arg) now = .next (afterHost (commandRefused 0x03 .wrongState 0 s)))

/-- FLUSH_CLASS completes every QUEUED call of the class as FLUSHED, in queue order, leaves an ACTIVE head, breaks no
chain, and returns the number flushed (R60, R67). -/
def Obligations.FlushCompletesQueued : Prop :=
  ∀ (arg : BitVec 24) (now s : State), now.inReset = false → s = hostEdge now →
    QueuesCoherent s →
    (4 ≤ (arg.extractLsb' 0 8).toNat →
      exec (.flushClass arg) now = .next (afterHost (commandRefused 0x05 .badArgument 0 s))) ∧
    ∀ c : Fin 4, c.val = (arg.extractLsb' 0 8).toNat →
      let flushed := s.calls.queues[c].filter fun n => s.calls.slots[n].state = .queued
      ∃ u, exec (.flushClass arg) now =
          .next (afterHost (commandOk 0x05 (BitVec.ofNat 16 flushed.length) u)) ∧
        u.calls.queues[c] = s.calls.queues[c].filter (fun n => s.calls.slots[n].state ≠ .queued) ∧
        (∀ d : Fin 4, d ≠ c → u.calls.queues[d] = s.calls.queues[d]) ∧
        (∀ n : SlotId, u.calls.slots[n] =
          if n ∈ flushed then { s.calls.slots[n] with state := .done, outcome := some .flushed, cancelPending := false }
          else s.calls.slots[n]) ∧
        (∃ recs : List Completion, u.calls.cq = s.calls.cq ++ recs ∧ recs.map Completion.slot = flushed ∧
          (∀ r ∈ recs, r.outcome = .flushed) ∧
          (∀ i (hi : i < recs.length), recs[i].sequence = s.calls.seq + BitVec.ofNat 8 i)) ∧
        u.calls.seq = s.calls.seq + BitVec.ofNat 8 flushed.length ∧
        u.calls.successor = (if s.calls.successor.any (fun n => n ∈ flushed) then none else s.calls.successor) ∧
        u.calls.backoff = s.calls.backoff ∧ u.calls.current = s.calls.current ∧
        u = { s with calls := u.calls, sess := u.sess } ∧
        (TagsCoherent s → u.calls.tags = s.calls.tags) ∧ (SessionsCoherent s → u.sess = s.sess)

/-- TAG_RESET sets one entry of the tag table, or all, to 0; it is refused for a destination of 31 or more, and while a
call concerned is current or holds a tag without an outcome (R58). -/
def Obligations.TagResetWhenIdle : Prop :=
  ∀ (arg : BitVec 24) (now s : State), now.inReset = false → s = hostEdge now →
    let d := (arg.extractLsb' 0 8).toNat
    let busy : Prop := ∃ n : SlotId, (d = 0 ∨ s.calls.slots[n].dest.toNat = d) ∧
      (s.calls.current = some n ∨ ((s.calls.slots[n].state = .queued ∨ s.calls.slots[n].state = .active) ∧
        s.calls.slots[n].tag.isSome = true))
    (31 ≤ d → exec (.tagReset arg) now = .next (afterHost (commandRefused 0x06 .badArgument 0 s))) ∧
    (d < 31 → busy → exec (.tagReset arg) now = .next (afterHost (commandRefused 0x06 .wrongState 0 s))) ∧
    (d < 31 → ¬ busy → ∃ v : Vector (BitVec 4) 31,
      exec (.tagReset arg) now = .next (afterHost (commandOk 0x06 0 { s with calls := { s.calls with tags := v } })) ∧
      ∀ i : Fin 31, v[i] = if d = 0 ∨ i.val = d then 0 else s.calls.tags[i])

/-! ## Commands: inboxes, tables and the board -/

/-- INBOX_POP removes the head record of an inbox and returns its arrival number, INBOX_FLUSH removes every record and
returns their number; the marks of that inbox are then compared (R103, R105). -/
def Obligations.InboxesPoppedAndFlushed : Prop :=
  ∀ (arg : BitVec 24) (now s : State), now.inReset = false → s = hostEdge now →
    (4 ≤ (arg.extractLsb' 0 8).toNat →
      exec (.inboxPop arg) now = .next (afterHost (commandRefused 0x08 .badArgument 0 s)) ∧
      exec (.inboxFlush arg) now = .next (afterHost (commandRefused 0x09 .badArgument 0 s))) ∧
    ∀ n : Fin 4, n.val = (arg.extractLsb' 0 8).toNat →
      let left : List InRecord → State := fun rs =>
        evalInbox n { s with intake := { s.intake with inboxes := s.intake.inboxes.set n rs } }
      (s.intake.inboxes[n] = [] →
        exec (.inboxPop arg) now = .next (afterHost (commandRefused 0x08 .empty 0 s))) ∧
      (∀ r rest, s.intake.inboxes[n] = r :: rest →
        exec (.inboxPop arg) now = .next (afterHost (commandOk 0x08 r.arrival (left rest)))) ∧
      exec (.inboxFlush arg) now =
        .next (afterHost (commandOk 0x09 (BitVec.ofNat 16 s.intake.inboxes[n].length) (left [])))

/-- TABLE_READ puts an entry of the routing table, the wake filters, the tag table or the repeat records into TBLDATA0
and TBLDATA1; an index beyond the table is BAD_ARGUMENT. With SEL 1 the address comes from TBLSEL, whose index then
advances (R59, R95, R99, R149, R166). -/
def Obligations.TableReadShowsEntry : Prop :=
  ∀ (arg : BitVec 24) (now s : State), now.inReset = false → s = hostEdge now →
    let sel := arg.getLsbD 23
    let table : BitVec 2 := if sel then s.host.tblTable else arg.extractLsb' 16 2
    let i : BitVec 8 := if sel then s.host.tblIndex else arg.extractLsb' 0 8
    let shows : Word → Word → Prop := fun d0 d1 =>
      exec (.tableRead arg) now = .next (afterHost (commandOk 0x0C 0 { s with host := { s.host with
        tbldata0 := d0, tbldata1 := d1, tblIndex := if sel then s.host.tblIndex + 1 else s.host.tblIndex } }))
    let limit := if table = 0 then 16 else if table = 1 then 4 else if table = 2 then 31 else 30
    (limit ≤ i.toNat → exec (.tableRead arg) now = .next (afterHost (commandRefused 0x0C .badArgument 0 s))) ∧
    (table = 0 → ∀ k : Fin 16, k.val = i.toNat → shows s.cfg.routes[k].word 0) ∧
    (table = 1 → ∀ k : Fin 4, k.val = i.toNat → shows s.cfg.filters[k].word 0) ∧
    (table = 2 → ∀ k : Fin 31, k.val = i.toNat → shows (s.calls.tags[k].setWidth 32) 0) ∧
    (table = 3 → ∀ k : Fin 30, k.val = i.toNat →
      (s.intake.repeats[k] = none → shows 0 0) ∧
      ∀ r, s.intake.repeats[k] = some r →
        shows (0x80000000#32 ||| (if r.kind = .swap then 0x200#32 else 0) ||| r.tag.setWidth 32) r.value)

/-- TABLE_WRITE writes an entry of the routing table or of the wake filters from TBLDATA0, as a TABLE_READ then shows
it, in its named bits; a source of 31, an action of 3, an index beyond the table and every entry of tables 2 and 3 are
BAD_ARGUMENT (R99, R149, R166). -/
def Obligations.TableWriteStoresEntry : Prop :=
  ∀ (arg : BitVec 24) (now s : State), now.inReset = false → s = hostEdge now →
    let sel := arg.getLsbD 23
    let table : BitVec 2 := if sel then s.host.tblTable else arg.extractLsb' 16 2
    let i : BitVec 8 := if sel then s.host.tblIndex else arg.extractLsb' 0 8
    let d := s.host.tbldata0
    let next : BitVec 8 := if sel then s.host.tblIndex + 1 else s.host.tblIndex
    let legal : Prop := d.extractLsb' 0 5 ≠ 31#5 ∧
      ((table = 0 ∧ i.toNat < 16 ∧ d.extractLsb' 20 2 ≠ 3#2) ∨ (table = 1 ∧ i.toNat < 4))
    (¬ legal → exec (.tableWrite arg) now = .next (afterHost (commandRefused 0x0D .badArgument 0 s))) ∧
    (legal → ∃ t, exec (.tableWrite arg) now = .next t ∧
      t = afterHost (commandOk 0x0D 0 { s with
        cfg := { s.cfg with routes := t.cfg.routes, filters := t.cfg.filters }
        host := { s.host with tblIndex := next } }) ∧
      (table = 0 → t.cfg.filters = s.cfg.filters ∧ ∀ k : Fin 16,
        (k.val = i.toNat → t.cfg.routes[k].word = d &&& 0x8033F71F#32) ∧
        (k.val ≠ i.toNat → t.cfg.routes[k] = s.cfg.routes[k])) ∧
      (table = 1 → t.cfg.routes = s.cfg.routes ∧ ∀ k : Fin 4,
        (k.val = i.toNat → t.cfg.filters[k].word = d &&& 0x87FFFF1F#32) ∧
        (k.val ≠ i.toNat → t.cfg.filters[k] = s.cfg.filters[k])))

/-- PUBLISH commits every staged entry of its range that is not remote-modified and skips every one that is; it returns
the number skipped above the number published, and raises PUBLISH_CONFLICT where an entry was skipped. PUBLISH_FORCE
commits every staged entry and clears both its flags (R113, R114, R115). -/
def Obligations.PublishCommitsStaged : Prop :=
  ∀ (arg : BitVec 24) (now s : State), now.inReset = false → s = hostEdge now →
    let first := (arg.extractLsb' 0 8).toNat
    let n := (arg.extractLsb' 8 8).toNat
    let inside : Fin 64 → Bool := fun i => decide (first ≤ i.val ∧ i.val < first + n)
    let number : (BoardEntry → Bool) → Nat := fun p =>
      ((List.finRange 64).filter fun i => inside i && p s.board[i]).length
    (n = 0 ∨ 64 < first + n →
      exec (.publish arg) now = .next (afterHost (commandRefused 0x10 .badArgument 0 s)) ∧
      exec (.publishForce arg) now = .next (afterHost (commandRefused 0x11 .badArgument 0 s))) ∧
    (n ≠ 0 → first + n ≤ 64 →
      let published := number fun e => e.isStaged && !e.modified
      let skipped := number fun e => e.isStaged && e.modified
      (∃ b : Board, exec (.publish arg) now = .next (afterHost (commandOk 0x10
          (BitVec.ofNat 16 (published + 256 * skipped))
          (raiseIf (decide (skipped ≠ 0)) .publishConflict { s with board := b }))) ∧
        ∀ i : Fin 64, b[i] =
          if inside i = true ∧ s.board[i].isStaged = true ∧ s.board[i].modified = false then
            { s.board[i] with committed := s.board[i].staged, isStaged := false }
          else s.board[i]) ∧
      (∃ b : Board, exec (.publishForce arg) now = .next (afterHost (commandOk 0x11
          (BitVec.ofNat 16 (number fun e => e.isStaged)) { s with board := b })) ∧
        ∀ i : Fin 64, b[i] =
          if inside i = true ∧ s.board[i].isStaged = true then
            { s.board[i] with committed := s.board[i].staged, isStaged := false, modified := false }
          else s.board[i]))

/-- WITHDRAW clears the staged flag of every staged entry of its range and returns their number; ABSORB clears both
flags of every entry of its range and returns 0; neither changes a committed value, and the host view of every entry of
the range is then that value (R113, R116, R117). -/
def Obligations.WithdrawAndAbsorbClearFlags : Prop :=
  ∀ (arg : BitVec 24) (now s : State), now.inReset = false → s = hostEdge now →
    let first := (arg.extractLsb' 0 8).toNat
    let n := (arg.extractLsb' 8 8).toNat
    let inside : Fin 64 → Bool := fun i => decide (first ≤ i.val ∧ i.val < first + n)
    (n = 0 ∨ 64 < first + n →
      exec (.withdraw arg) now = .next (afterHost (commandRefused 0x12 .badArgument 0 s)) ∧
      exec (.absorb arg) now = .next (afterHost (commandRefused 0x13 .badArgument 0 s))) ∧
    (n ≠ 0 → first + n ≤ 64 →
      (∃ b : Board, exec (.withdraw arg) now = .next (afterHost (commandOk 0x12
          (BitVec.ofNat 16 ((List.finRange 64).filter fun i => inside i && s.board[i].isStaged).length)
          { s with board := b })) ∧
        (∀ i : Fin 64, b[i] = if inside i = true then { s.board[i] with isStaged := false } else s.board[i]) ∧
        ∀ i : Fin 64, inside i = true → { s with board := b }.readReg (.board i) = s.board[i].committed) ∧
      (∃ b : Board, exec (.absorb arg) now = .next (afterHost (commandOk 0x13 0 { s with board := b })) ∧
        (∀ i : Fin 64, b[i] =
          if inside i = true then { s.board[i] with isStaged := false, modified := false } else s.board[i]) ∧
        ∀ i : Fin 64, inside i = true → { s with board := b }.readReg (.board i) = s.board[i].committed))

/-! ## Commands: holds, sessions, doze, link and counters -/

/-- HOLD_SEND is refused while the link is off, while a manual request is pending, and for an empty mask, in that order;
otherwise its mask and time become the manual request (R127). SESSION_DROP removes the top entry of the Session Stack
without bus activity, refused while the session gate is taken, EMPTY for an empty stack; it raises nothing (R75).
BREAK_CLAIM ends the claim with cause BROKEN and CLAIM_ENDED and returns the former holder; without a holder it is EMPTY
(R83). -/
def Obligations.HoldDropAndBreakCommands : Prop :=
  ∀ (arg : BitVec 24) (now s : State), now.inReset = false → s = hostEdge now →
    exec (.holdSend arg) now = .next (afterHost (
      if s.link.act = .off then commandRefused 0x18 .disabled 0 s
      else if s.hold.manual ≠ none then commandRefused 0x18 .wrongState 0 s
      else if arg.extractLsb' 16 4 = 0#4 then commandRefused 0x18 .badArgument 0 s
      else commandOk 0x18 0 { s with hold := { s.hold with
        manual := some (arg.extractLsb' 16 4, arg.extractLsb' 0 16) } })) ∧
    (s.sess.gate ≠ none → exec .sessionDrop now = .next (afterHost (commandRefused 0x1C .wrongState 0 s))) ∧
    (s.sess.gate = none → s.sess.stack = [] →
      exec .sessionDrop now = .next (afterHost (commandRefused 0x1C .empty 0 s))) ∧
    (∀ e rest, s.sess.gate = none → s.sess.stack = e :: rest →
      exec .sessionDrop now = .next (afterHost (commandOk 0x1C (e.node.setWidth 16)
        { s with sess := { s.sess with stack := rest } }))) ∧
    (s.sess.holder = none → exec .breakClaim now = .next (afterHost (commandRefused 0x1D .empty 0 s))) ∧
    (∀ h, s.sess.holder = some h →
      exec .breakClaim now = .next (afterHost (commandOk 0x1D (h.setWidth 16)
        (raise .claimEnded { s with sess := { s.sess with holder := none, leaseTimer := none, lastEnd := .broken } }))))

/-- DOZE is DISABLED while the link is off and WRONG_STATE unless the controller is AWAKE; otherwise doze is pending, or
entered at once with value 1 where the link is IDLE and no HOLD request is pending (R142, R143). WAKE wakes a dozing
controller with cause HOST, adds that cause on the edge of a wake, cancels a pending doze, and is otherwise WRONG_STATE
(R146, R147). -/
def Obligations.DozeAndWakeCommands : Prop :=
  ∀ (e : Edge) (now s : State), now.inReset = false → s = hostEdge now →
    let entered : State :=
      raise .dozeEntered { s with doze := { state := .dozing, idle := none, causes := 0, filter := 0 } }
    exec .doze now = .next (afterHost (
      if s.link.act = .off then commandRefused 0x20 .disabled 0 s
      else if s.doze.state ≠ .awake then commandRefused 0x20 .wrongState 0 s
      else if s.link.act = .idle ∧ s.hold.pendAssert = 0 ∧ s.hold.pendRelease = 0 ∧ s.hold.manual = none then
        commandOk 0x20 1 entered
      else commandOk 0x20 0 { s with doze := { s.doze with state := .pending } })) ∧
    exec (.wake e) now = .next (afterHost (
      if s.doze.state = .dozing then
        commandOk 0x21 1 (raise .woken { s with doze := { s.doze with
          state := .awake, causes := s.doze.causes ||| 1#4 } })
      else if s.doze.state = .pending then commandOk 0x21 0 { s with doze := { s.doze with state := .awake } }
      else if e = .shared ∧ s.events.edgeWoken = true then
        commandOk 0x21 1 { s with doze := { s.doze with causes := s.doze.causes ||| 1#4 } }
      else commandRefused 0x21 .wrongState 0 s))

/-- LINK_RESTART is DISABLED while the link is off and WRONG_STATE while DOZING; otherwise it abandons the activity, ends
quarantine, zeroes the consecutive fault counter and moves the link to SETTLING, where the stuck timer starts afresh if
SLINE is low and is stopped if it is high, and returns whether the controller was in quarantine (R134, R138); whether
SLINE is low is what the model knows of the pin (model's choice, log 5), and the call under way is the current call no
longer (model's choice, log 31). QUARANTINE_CLEAR ends quarantine and zeroes the consecutive fault counter; outside
quarantine it is WRONG_STATE and changes nothing (R139). -/
def Obligations.RestartAndQuarantineClear : Prop :=
  ∀ now s : State, now.inReset = false → s = hostEdge now →
    (s.link.act = .off → exec .linkRestart now = .next (afterHost (commandRefused 0x24 .disabled 0 s))) ∧
    (s.link.act ≠ .off → s.doze.state = .dozing →
      exec .linkRestart now = .next (afterHost (commandRefused 0x24 .wrongState 0 s))) ∧
    (s.link.act ≠ .off → s.doze.state ≠ .dozing →
      exec .linkRestart now = .next (afterHost (commandOk 0x24 (if s.link.quarantine then 1 else 0)
        { abandon s with link := { (abandon s).link with
          act := .settling, bus := .ignoring, faults := 0, quarantine := false
          line := { lineReleased s with
            stuck := if (lineReleased s).low.isSome then Timer.start s.div (s.cfg.linkcfg.stuckLimit.toNat * 100)
              else none } } }))) ∧
    (s.link.quarantine = false →
      exec .quarantineClear now = .next (afterHost (commandRefused 0x25 .wrongState 0 s))) ∧
    (s.link.quarantine = true →
      exec .quarantineClear now = .next (afterHost (commandOk 0x25 0
        { s with link := { s.link with faults := 0, quarantine := false } })))

/-- A command code that is not defined gives BAD_CODE and CMD_ERROR, and nothing else changes; and every command whose
result is not OK leaves the controller as it was but for CMDR and CMD_ERROR (R165). -/
def Obligations.RefusedCommandsChangeNothing : Prop :=
  ∀ now s : State, now.inReset = false → s = hostEdge now →
    (∀ code : BitVec 8, (Instr.badCode code).wellFormed = true →
      exec (.badCode code) now = .next (afterHost (commandRefused code .badCode 0 s))) ∧
    ∀ (c : Instr) (t : State), isCommand c = true → exec c now = .next t → t.host.cmdr.result ≠ .ok →
      ∃ code r v, t = afterHost (commandRefused code r v s)

/-! ## Outcomes and chains -/

/-- A call's final outcome closes it, whether or not it breaks a chain: the slot is DONE with its outcome and no
cancellation pending, its backoff timer stops, its destination's tag advances, the session gate and the stack follow, its
record joins the Completion Queue with the next sequence number, and the chain-successor pointer is updated. A CLAIM ended
ACKED pushes an entry whose mirror does not run for a lease of 0, ends lease − 1 ms after own call end, and has ended,
with LEASE_LAPSED, where that moment has come (R56, R60, R61, R68, R71, R72, R74). Where no chain is broken, no other slot
and no other record changes. That the age of the call is counted in HCLK cycles is the model's choice (log 21). What
becomes of the calls of a broken chain is ChainBreaksInQueueOrder. -/
def Obligations.OutcomeClosesCall : Prop :=
  ∀ (n : SlotId) (o : CallOutcome) (source : BitVec 5) (s : State),
    let x := s.calls.slots[n]
    let breaks := x.chain = true ∧ o ∉ [CallOutcome.acked, .sent, .flushed]
    (breaks → x.open = true ∧ ClassQueuesCoherent s ∧ TagsCoherent s ∧ SessionsCoherent s) →
    let t := decideOutcome n o source s
    let after := behind n s.calls.queues[x.cls]
    let closed : Slot := { x with state := .done, outcome := some o, cancelPending := false }
    let record : Completion := ⟨n, o, x.attempts, x.losses, x.reason, x.answer.length, s.calls.seq⟩
    let pushes := x.kind = Config.kindClaim ∧ o = .acked
    let lease := x.answer.headD 0
    let cycles := (lease.toNat - 1) * 1000 * (s.div + 1)
    let age := s.link.callAge.getD 0
    t = { s with calls := t.calls, sess := t.sess, events := t.events } ∧
    t.calls.slots[n] = closed ∧
    t.calls.backoff = (if x.state = .active then s.calls.backoff.set x.cls none else s.calls.backoff) ∧
    (∀ d : Fin 31, t.calls.tags[d] =
      if x.tag.isSome = true ∧ x.dest.toNat = d.val ∧ d.val ≠ 0 then
        (if s.calls.tags[d] = 15 then 1 else s.calls.tags[d] + 1) else s.calls.tags[d]) ∧
    (∃ more, t.calls.cq = s.calls.cq ++ record :: more) ∧ t.calls.current = s.calls.current ∧
    t.calls.successor =
      (if x.chain = true ∧ (o = .acked ∨ o = .sent) ∧ after ≠ none then after
       else if s.calls.successor = some n then none else s.calls.successor) ∧
    t.sess.gate = (if s.sess.gate = some n then none else s.sess.gate) ∧
    (t.sess.holder, t.sess.leaseTimer, t.sess.lastEnd) = (s.sess.holder, s.sess.leaseTimer, s.sess.lastEnd) ∧
    (if pushes then
      ∃ e, t.sess.stack = e :: s.sess.stack ∧ e.node = x.dest ∧ e.identity = source ∧ e.lease = lease ∧
        (lease = 0 → e.mirror = none ∧ e.lapsed = false) ∧
        (lease ≠ 0 → cycles ≤ age → e.mirror = none ∧ e.lapsed = true) ∧
        (lease ≠ 0 → age < cycles → e.lapsed = false ∧ ∃ m : Timer, e.mirror = some m ∧
          1 ≤ m.us ∧ 1 ≤ m.cyc ∧ m.cyc ≤ s.div + 1 ∧ (m.us - 1) * (s.div + 1) + m.cyc = cycles - age)
     else if x.kind = Config.kindRelease ∧ (o = .acked ∨ (o = .refused ∧ x.reason = some 0x04#8)) then
      t.sess.stack = s.sess.stack.tail
     else t.sess.stack = s.sess.stack) ∧
    t.events = (if pushes ∧ lease ≠ 0 ∧ cycles ≤ age then (raise .leaseLapsed s).events else s.events) ∧
    (¬ breaks → t.calls.slots = s.calls.slots.set n closed ∧
      t.calls.queues = s.calls.queues.set x.cls (s.calls.queues[x.cls].erase n) ∧
      t.calls.cq = s.calls.cq ++ [record] ∧ t.calls.seq = s.calls.seq + 1)

/-- An unsuccessful outcome of a call with CHAIN 1, but for FLUSHED, completes the call behind it CHAIN_BROKEN, and so on
while the calls completed have CHAIN 1: the records follow in queue order with consecutive sequence numbers, and no other
slot changes (R69). It needs the class queues in order and no more, so it speaks too of the outcomes that a report on the
current call decides. -/
def Obligations.ChainBreaksInQueueOrder : Prop :=
  ∀ (n : SlotId) (o : CallOutcome) (source : BitVec 5) (s : State), ClassQueuesCoherent s →
    s.calls.slots[n].open = true → s.calls.slots[n].chain = true → o ∉ [CallOutcome.acked, .sent, .flushed] →
    ∀ (front back : List SlotId), s.calls.queues[s.calls.slots[n].cls] = front ++ n :: back →
    let run := back.takeWhile fun m => s.calls.slots[m].chain
    let broken := run ++ (back.drop run.length).take 1
    let t := decideOutcome n o source s
    (∃ r recs, t.calls.cq = s.calls.cq ++ r :: recs ∧ r.slot = n ∧ r.outcome = o ∧
      recs.map Completion.slot = broken ∧ (∀ q ∈ recs, q.outcome = .chainBroken) ∧
      ∀ i (hi : i < recs.length), recs[i].sequence = s.calls.seq + 1 + BitVec.ofNat 8 i) ∧
    (∀ m : SlotId, m ≠ n → t.calls.slots[m] =
      if m ∈ broken then { s.calls.slots[m] with state := .done, outcome := some .chainBroken, cancelPending := false }
      else s.calls.slots[m]) ∧
    t.calls.queues[s.calls.slots[n].cls] = front ++ back.drop broken.length

/-! ## What every event ends with -/

/-- The end of an event makes the one selection that R27 asks for: the link, the calls and the session gate are then those
that the selection leaves, which changes nothing unless the link is IDLE, the bus free and the controller not dozing.
After it a pending doze is entered where the link is IDLE and no HOLD request is pending, the doze idle timer runs under
its conditions, and INT# is set. The end of an event changes no configuration, host register, inbox, board entry, hold
request, counter, claim or stack entry. The idle conditions are: AUTO 1, the controller AWAKE, the link IDLE, no call
QUEUED or ACTIVE, no HOLD request pending (R27, R143, R144, R155). What a selection does is SelectionOrder. That
both are looked at once, at the end of every event, is the model's choice (logs 14 and 26). -/
def Obligations.EndOfEvent : Prop :=
  ∀ s : State,
    let t := endEvent s
    let noHold : State → Prop := fun u => u.hold.pendAssert = 0 ∧ u.hold.pendRelease = 0 ∧ u.hold.manual = none
    let idles : Prop := t.cfg.dozecfg.auto = true ∧ t.doze.state = .awake ∧ t.link.act = .idle ∧
      (∀ n : SlotId, t.calls.slots[n].state ≠ .queued ∧ t.calls.slots[n].state ≠ .active) ∧ noHold t
    t = { s with
      link := { s.link with act := t.link.act, bus := t.link.bus, line := t.link.line }
      calls := t.calls
      sess := { s.sess with gate := t.sess.gate }
      doze := t.doze
      events := { s.events with
        sticky := t.events.sticky, edgeRaised := t.events.edgeRaised, intLow := t.events.intLow } } ∧
    (t.events.intLow = true ↔ s.sctl.irqEn = true ∧ (t.events.sticky ||| t.levels) &&& s.cfg.even ≠ 0) ∧
    (idles → t.doze.idle = if s.doze.idle.isSome then s.doze.idle
      else Timer.start s.div (s.cfg.dozecfg.dozeIdle.toNat * 1000)) ∧
    (¬ idles → t.doze.idle = none) ∧
    (let u := select s
     t.link = u.link ∧ t.calls = u.calls ∧ t.sess = u.sess ∧
      (if s.doze.state = .pending ∧ u.link.act = .idle ∧ noHold s then
        t.doze = { state := .dozing, idle := none, causes := 0, filter := 0 } ∧
        t.events = { u.events with
          sticky := u.events.sticky ||| 0x200000#32, edgeRaised := u.events.edgeRaised ||| 0x200000#32
          intLow := t.events.intLow }
      else t.doze = { s.doze with idle := t.doze.idle } ∧ t.events = { u.events with intLow := t.events.intLow }) ∧
      ((s.link.act ≠ .idle ∨ s.link.bus ≠ .free ∨ s.doze.state = .dozing ∨ (s.doze.state = .pending ∧ noHold s)) → u = s))

/-- When a queue head is eligible, condition by condition (R50, R71), and the outcome that the start checks give a call,
in their order (R51, R74). That a call sent before sends, after a rewrite of IDENT, the identity that IDSEL names now is
read from R51 against R16 (DEDUCED, log 28). -/
def Obligations.EligibilityAndStartChecks : Prop :=
  ∀ (n : SlotId) (s : State),
    let x := s.calls.slots[n]
    let unfinished : Slot → Prop := fun y => y.state = .queued ∨ y.state = .active
    (s.eligible n = true ↔
      s.calls.queues[x.cls].head? = some n ∧ s.link.act ≠ .off ∧ s.link.quarantine = false ∧ s.doze.state = .awake ∧
      s.hold.timers[x.cls] = none ∧ s.calls.backoff[x.cls] = none ∧
      (x.kind = 3 ∨ x.kind = 4 → s.sess.gate = none ∨ s.sess.gate = some n) ∧
      (x.dest ≠ 0 → x.tag = none → ∀ m : SlotId, m ≠ n → unfinished s.calls.slots[m] →
        s.calls.slots[m].dest = x.dest → s.calls.slots[m].tag = none)) ∧
    (let own : BitVec 5 → Prop := fun d => d ≠ 0 ∧ (d = s.cfg.ident.primary ∨ d = s.cfg.ident.aliasId)
     let sends : BitVec 5 := if x.kind = 4 then (s.sess.stack.head?.map SessEntry.identity).getD 0
       else if x.idsel then s.cfg.ident.aliasId else s.cfg.ident.primary
     let fails : Nat → Prop := fun k =>
      (k = 1 ∧ x.state = .queued ∧ x.kind = 4 ∧ s.sess.stack.head?.map SessEntry.node ≠ some x.dest) ∨
      (k = 2 ∧ (¬ own sends ∨ own x.dest)) ∨
      (k = 3 ∧ x.state = .queued ∧ x.kind = 3 ∧ x.dest ∈ s.sess.stack.map SessEntry.node) ∨
      (k = 4 ∧ x.state = .queued ∧ x.kind = 3 ∧ 6 ≤ s.sess.stack.length)
     (∀ k o, (k, o) ∈ [(1, CallOutcome.orderFault), (2, .badIdentity), (3, .duplicateClaim), (4, .stackFull)] →
        fails k → (∀ j, j < k → ¬ fails j) → s.startCheck n = some o) ∧
     ((∀ k, ¬ fails k) → s.startCheck n = none))

/-- A selection with the bus free and the controller not dozing: a pending HOLD assertion goes first, then a release, then
the manual request, each as a parcel formed now; then the chain successor if it is eligible, then the head of the
lowest-numbered class queue whose head is eligible. A call that a start check completes is passed over within the same
event (R27, R49, R51, R52, R68, R124, R127). Its lead mark begins at once, or is timed from another node's falling edge
that came within 0.5 bt (R2, R9). That a call sent before sends, after a rewrite of IDENT, the identity that IDSEL names
now is read from R51 against R16 (DEDUCED, log 28); that the candidates are looked at afresh after a completed call is the
model's choice (log 32). -/
def Obligations.SelectionOrder : Prop :=
  ∀ s : State, s.link.act = .idle → s.link.bus = .free → s.doze.state ≠ .dozing →
    let parcel : BitVec 4 → BitVec 16 → Parcel := fun mask time =>
      ⟨0, 0, 5, s.cfg.ident.primary, 0, [mask.setWidth 8, time.extractLsb' 8 8, time.extractLsb' 0 8]⟩
    let sends : HoldKind → BitVec 4 → BitVec 16 → Prop := fun k mask time =>
      select s = ownLead { s with link := { s.link with act := .contending (.hold k) (parcel mask time), bus := .busy } }
    let T := s.cfg.holdcfg.holdTime
    (s.hold.pendAssert ≠ 0 → sends .assertion s.hold.asserted (if T = 0 then 1 else T)) ∧
    (s.hold.pendAssert = 0 → s.hold.pendRelease ≠ 0 → sends .release s.hold.pendRelease 0) ∧
    (s.hold.pendAssert = 0 → s.hold.pendRelease = 0 → ∀ mask time, s.hold.manual = some (mask, time) →
      sends .manual mask time) ∧
    (s.hold.pendAssert = 0 → s.hold.pendRelease = 0 → s.hold.manual = none →
      let heads : Fin 4 → SlotId → Prop := fun c n => s.calls.queues[c].head? = some n ∧ s.eligible n = true
      let successor : SlotId → Prop := fun n => s.calls.successor = some n ∧ s.eligible n = true
      let first : SlotId → Prop := fun n => successor n ∨
        ((∀ m, ¬ successor m) ∧ ∃ c, heads c n ∧ ∀ d, d < c → ∀ m, ¬ heads d m)
      ((∀ n, ¬ first n) → select s = s) ∧
      (∀ n, first n →
        let x := s.calls.slots[n]
        (∀ o, s.startCheck n = some o → QueuesCoherent s →
          select s = select (raiseIf (decide (o ≠ .badIdentity)) .sessionFault (decideOutcome n o 0 s))) ∧
        (s.startCheck n = none →
          let source : BitVec 5 := if x.kind = 4 then (s.sess.stack.head?.map SessEntry.identity).getD 0
            else if x.idsel then s.cfg.ident.aliasId else s.cfg.ident.primary
          let p : Parcel := ⟨BitVec.ofFin x.cls, x.dest, x.kind, source, x.tag.getD 0, x.payload⟩
          select s = ownLead { s with
            link := { s.link with act := .contending .call p, bus := .busy }
            calls := { s.calls with
              slots := s.calls.slots.set n { x with state := .active }, current := some n }
            sess := { s.sess with gate := if x.kind = 3 ∨ x.kind = 4 then some n else s.sess.gate } })))

/-! ## Line events -/

/-- How the link moves with the line: LEAD_MARK, ANSWER_START, STRAY_PULSE, QUIET_GAP_END, LINE_HIGH, CONTENTION_WON and
ARBITRATION_LOSS in every state in which the rules let them occur (R5, R26, R27, R28, R32, R39, R52, R57, R136). A falling
edge of the same HCLK edge is no edge before the start of an answer, and comes after the quiet gap (R27, R39). That a
stray pulse before the start of a decided answer drops the answer is the model's choice (log 11), and so is what these
rows tell of the pin, whose stuck timer LEAD_MARK sets from a falling edge 1.75 bt ago where no sample told of it (R133,
R134; log 5). -/
def Obligations.LinkMovesWithTheLine : Prop :=
  ∀ now s : State, now.inReset = false → s = lineEdge now →
    let go : Activity → Bus → State := fun a k => { s with link := { s.link with act := a, bus := k } }
    let pass := s.link.bus
    let loss := count .arbLosses s
    (s.link.act = .idle → s.link.bus ≠ .ignoring →
      exec .leadMark now = .next (endEvent (markLow (go (.listening none) .busy)))) ∧
    (s.link.act = .idle → s.link.bus = .ignoring → exec .leadMark now = .next (endEvent (markLow s))) ∧
    (s.link.act = .settling → exec .leadMark now = .next (endEvent (markLow s)) ∧
      exec (.strayPulse false) now = .next (endEvent (lineUp s))) ∧
    (∀ p, s.link.act = .awaiting p →
      exec .leadMark now = .next (endEvent (markLow (go (.listening (some p)) pass))) ∧
      exec (.strayPulse false) now = .next (endEvent (lineUp s))) ∧
    (∀ a, s.link.act = .answering a false →
      exec .leadMark now = .next (endEvent (markLow (go (.listening none) pass))) ∧
      (s.link.line.low = none ∨ s.events.edgeFell = true →
        exec .answerStart now = .next (endEvent (ownLead (go (.answering a true) pass)))) ∧
      (s.link.line.low ≠ none → s.events.edgeFell = false → exec .answerStart now = .next (endEvent (go .pulse pass))) ∧
      exec (.strayPulse false) now = .next (endEvent (lineUp (go .idle .busy)))) ∧
    (s.link.act = .pulse → exec .leadMark now = .next (endEvent (markLow (go (.listening none) pass))) ∧
      exec (.strayPulse false) now = .next (endEvent (lineUp (go .idle .busy)))) ∧
    (s.link.act = .idle →
      exec (.strayPulse false) now = .next (endEvent (lineUp (go .idle (if pass = .ignoring then pass else .busy))))) ∧
    (s.link.act = .settling ∨ s.link.act = .idle →
      exec .quietGapEnd now = .next (endEvent (lineUp (go .idle .free)))) ∧
    (s.link.act = .stuck →
      exec .lineHigh now = .next (endEvent (raise .lineBack { s with link := { s.link with
        act := .settling, bus := .ignoring, line := lineHigh s.link.line } }))) ∧
    (∀ k p, s.link.act = .contending (.hold k) p →
      exec .contentionWon now = .next (endEvent (lineUp (go (.transmitting (.hold k) p) pass))) ∧
      exec .arbitrationLoss now = .next (endEvent (lineUp { loss with link := { loss.link with
        act := .listening none, bus := .busy } }))) ∧
    (∀ p n, s.link.act = .contending .call p → s.calls.current = some n →
      let x := s.calls.slots[n]
      let tag : Option (BitVec 4) := if x.dest = 0 then none else some (x.tag.getD (s.tagOf x.dest))
      let won := go (.transmitting .call { p with tag := tag.getD 0 }) pass
      let lost := callLost loss
      exec .contentionWon now = .next (endEvent (lineUp { won with calls := { s.calls with
        slots := s.calls.slots.set n { x with attempts := x.attempts + 1, tag := tag } } })) ∧
      exec .arbitrationLoss now = .next (endEvent (lineUp
        { lost with link := { lost.link with act := .listening none, bus := .busy } })))

/-- A bit clash or mark fault stops an own parcel: the call's attempt ends broken, the consecutive fault counter gains 1,
saturating at 15, and on reaching a FAULT_LIMIT other than 0 puts the controller into quarantine; a clash in the tag field
of a call counts a conflict; in contention a mark fault is a lost contention and no counted fault (R28, R30, R31, R40,
R41, R42). That a clash is given by its bit number, whatever the bit sent, and that a fault which finds the counter at 15
is compared with FAULT_LIMIT too, are the model's choices (logs 9 and 29), and so is what these rows tell of the pin:
SLINE high after a clash, low since 1.75 bt at a mark fault where no sample told of its edge (R133, R134; log 5). -/
def Obligations.FaultsOnOwnParcels : Prop :=
  ∀ (bit : Nat) (now s : State), now.inReset = false → s = lineEdge now →
    let limit := s.cfg.linkcfg.faultLimit
    let faulted : State → State := fun t =>
      let n : BitVec 4 := if t.link.faults = 15 then 15 else t.link.faults + 1
      let enters := decide (limit ≠ 0 ∧ limit.toNat ≤ n.toNat ∧ t.link.quarantine = false)
      raiseIf enters .quarantine { t with link := { t.link with faults := n, quarantine := t.link.quarantine || enters } }
    let clashed : State := raise .nodeConflict { s with link := { s.link with
      conflicts := if s.link.conflicts = 255 then 255 else s.link.conflicts + 1 } }
    let marked := count .markFaults s
    (∀ p, s.link.act = .transmitting .call p → 16 ≤ bit → bit < 42 + 8 * p.payload.length →
      exec (.bitClash bit) now = .next (endEvent (lineUp (toIdle .ignoring
        (attemptEnd p (.broken .bitClash) (faulted (if bit < 20 then clashed else s))))))) ∧
    (∀ k p, s.link.act = .transmitting (.hold k) p → 16 ≤ bit → bit < 42 + 8 * p.payload.length →
      exec (.bitClash bit) now = .next (endEvent (lineUp (toIdle .ignoring (faulted s))))) ∧
    (∀ a, s.link.act = .answering a true → bit < 42 + 8 * a.payload.length →
      exec (.bitClash bit) now = .next (endEvent (lineUp (toIdle .ignoring (faulted s))))) ∧
    (∀ p, s.link.act = .transmitting .call p →
      exec .markFault now = .next (endEvent (markLow (toIdle .ignoring
        (attemptEnd p (.broken .markFault) (faulted marked)))))) ∧
    (∀ k p, s.link.act = .transmitting (.hold k) p →
      exec .markFault now = .next (endEvent (markLow (toIdle .ignoring (faulted marked))))) ∧
    (∀ a, s.link.act = .answering a true →
      exec .markFault now = .next (endEvent (markLow (toIdle .ignoring (faulted marked))))) ∧
    (∀ p, s.link.act = .contending .call p →
      exec .markFault now = .next (endEvent (markLow (toIdle .ignoring (callLost marked))))) ∧
    (∀ k p, s.link.act = .contending (.hold k) p →
      exec .markFault now = .next (endEvent (markLow (toIdle .ignoring marked))))

/-- An own parcel sent cleanly counts in TX_PARCELS and zeroes the consecutive fault counter; a unicast call opens its
answer window, a broadcast call ends as sent, and a HOLD parcel removes its classes from the pending set it served, starts
the refresh timer if it was an assertion, and raises HOLD_OUT. A window with no parcel begun in it ends the attempt with
no answer; one that ends while a pulse is still low leaves the pulse to be classified (R30, R32, R40, R41, R53, R124,
R125, R127). That the timer starts too where the asserted set has become empty meanwhile, that the age of the call counts
from SENT_CLEANLY, and that these rows leave SLINE high with the stuck timer stopped (R134) are the model's choices (logs
22, 21 and 5). -/
def Obligations.OwnParcelsSent : Prop :=
  ∀ now s : State, now.inReset = false → s = lineEdge now →
    let c := count .txParcels s
    let ok : State := { c with link := { c.link with faults := 0 } }
    let T := s.cfg.holdcfg.holdTime.toNat
    let quanta := max 1 (max 1 T - s.cfg.holdcfg.refreshMargin.toNat)
    let sent : HoldUnit → State := fun h => lineUp (toIdle .busy (raise .holdOut { ok with hold := h }))
    (∀ p, s.link.act = .transmitting .call p → p.dest ≠ 0 →
      exec .sentCleanly now = .next (endEvent (lineUp
        { ok with link := { ok.link with act := .awaiting p, callAge := some 0 } }))) ∧
    (∀ p, s.link.act = .transmitting .call p → p.dest = 0 →
      exec .sentCleanly now = .next (endEvent (lineUp (toIdle .busy (attemptEnd p .sent ok))))) ∧
    (∀ p, s.link.act = .transmitting (.hold .assertion) p →
      exec .sentCleanly now = .next (endEvent (sent { s.hold with
        pendAssert := s.hold.pendAssert &&& ~~~((p.byte 0).extractLsb' 0 4)
        refresh := Timer.start s.div (quanta * (32 * 2 ^ s.cfg.linkcfg.rate.toNat)) }))) ∧
    (∀ p, s.link.act = .transmitting (.hold .release) p →
      exec .sentCleanly now = .next (endEvent (sent { s.hold with
        pendRelease := s.hold.pendRelease &&& ~~~((p.byte 0).extractLsb' 0 4) }))) ∧
    (∀ p, s.link.act = .transmitting (.hold .manual) p →
      exec .sentCleanly now = .next (endEvent (sent { s.hold with manual := none }))) ∧
    (∀ a, s.link.act = .answering a true →
      exec .answerSent now = .next (endEvent (lineUp (toIdle .busy ok)))) ∧
    (∀ p, s.link.act = .awaiting p →
      let gone := lineUp (toIdle .busy (attemptEnd p .noAnswer s))
      (s.link.line.low = none → exec .answerWindowExpiry now = .next (endEvent gone)) ∧
      (s.link.line.low ≠ none → exec .answerWindowExpiry now = .next (endEvent s)) ∧
      exec (.strayPulse true) now = .next (endEvent gone))

/-- What the Call Engine does with a report on its current call. Contention lost: the losses rise by 1 up to 255, and at
the ceiling the call is STARVED. An attempt end: an accepted ACK, an accepted NAK and "sent" complete the call; a failure
completes it when a cancellation is pending, starts the class backoff timer while attempts are left, and otherwise
completes it by the failure's name; the reason byte is that of the last attempt end. No other field of the call changes
(R16, R52, R53, R54, R66). -/
def Obligations.CallEngineReports : Prop :=
  ∀ (n : SlotId) (own : Parcel) (s : State), s.calls.current = some n →
    let x := s.calls.slots[n]
    let without : Slot → State → State := fun y t =>
      { t with calls := { t.calls with slots := t.calls.slots.set n y, current := none } }
    let aged : State → State := fun t => { t with link := { t.link with callAge := none } }
    let waiting : Vector (Option Timer) 4 → State → State := fun v t => { t with calls := { t.calls with backoff := v } }
    (let y : Slot := { x with losses := min 255 (x.losses + 1) }
     let u := aged (without y s)
     callLost s =
      if x.cancelPending then decideOutcome n .cancelled 0 u
      else if x.ceiling ≠ 0 ∧ x.ceiling.toNat ≤ y.losses then decideOutcome n .starved 0 u
      else u) ∧
    (∀ bytes, attemptEnd own (.acked bytes) s = aged (decideOutcome n .acked own.source
      (without { x with reason := none, answer := bytes } (restartMirrors own s)))) ∧
    (∀ r, attemptEnd own (.nak r) s = aged (decideOutcome n .refused own.source
      (without { x with reason := some r } s))) ∧
    attemptEnd own .sent s = aged (decideOutcome n .sent own.source
      (without { x with reason := none } s)) ∧
    (∀ (r : ExchangeResult) (reason : Option Byte) (o : CallOutcome),
      ((∃ d, r = .deferred d ∧ reason = some d ∧ o = .deferred) ∨
        (reason = none ∧ ((r = .noAnswer ∧ o = .noAnswer) ∨ (∃ code, r = .answerFault code ∧ o = .answerFault) ∨
          ∃ b, r = .broken b ∧ o = .linkFault))) →
      let u := without { x with reason := reason } s
      attemptEnd own r s = aged (
        if x.cancelPending then decideOutcome n .cancelled own.source u
        else if x.attempts ≤ x.budget.toNat then
          waiting (u.calls.backoff.set x.cls (Timer.start s.div (s.cfg.linkcfg.retryDelay.toNat * 100))) u
        else decideOutcome n o own.source u))

/-- An accepted ACK restarts the mirror of every entry that it renews, to end lease − 1 ms after own call end; where that
end has come the entry lapses with LEASE_LAPSED; lapsed entries, leases of 0 and entries of other nodes or identities stay
as they are (R73). That the age of the call is counted in HCLK cycles is the model's choice (log 21). -/
def Obligations.AckRestartsMirrors : Prop :=
  ∀ (own : Parcel) (s : State),
    let t := restartMirrors own s
    let age := s.link.callAge.getD 0
    let cycles : SessEntry → Nat := fun e => (e.lease.toNat - 1) * 1000 * (s.div + 1)
    let renews : SessEntry → Prop := fun e =>
      e.node = own.dest ∧ e.identity = own.source ∧ e.lapsed = false ∧ e.lease ≠ 0
    t = { s with sess := { s.sess with stack := t.sess.stack }, events := t.events } ∧
    ((∃ e ∈ s.sess.stack, renews e ∧ cycles e ≤ age) → t.events = (raise .leaseLapsed s).events) ∧
    ((¬ ∃ e ∈ s.sess.stack, renews e ∧ cycles e ≤ age) → t.events = s.events) ∧
    t.sess.stack.length = s.sess.stack.length ∧
    ∀ (i : Nat) (e : SessEntry), s.sess.stack[i]? = some e →
      (¬ renews e → t.sess.stack[i]? = some e) ∧
      (renews e → cycles e ≤ age → t.sess.stack[i]? = some { e with mirror := none, lapsed := true }) ∧
      (renews e → age < cycles e → ∃ m : Timer, t.sess.stack[i]? = some { e with mirror := some m } ∧
        1 ≤ m.us ∧ 1 ≤ m.cyc ∧ m.cyc ≤ s.div + 1 ∧ (m.us - 1) * (s.div + 1) + m.cyc = cycles e - age)

/-! ## Receptions -/

/-- The verdict on a window parcel, check by check: the first check of R33 that fails gives its subtype, which
LINKSTAT.LAST_FAULT takes with event ANSWER_FAULT as the attempt ends; a parcel that passes every check ends the attempt
as an accepted ACK, NAK or DEFER (R33, R34). -/
def Obligations.WindowVerdict : Prop :=
  ∀ (own : Parcel) (r : RxResult) (s : State),
    let fails : BitVec 4 → State → Prop := fun code t =>
      t = attemptEnd own (.answerFault code) (raise .answerFault { s with link := { s.link with lastFault := code } })
    let t := endWindow own r s
    (r = .markFault ∨ r = .overrun ∨ r = .overlength → fails 2 t) ∧
    (r = .badCheck → fails 1 t) ∧
    ∀ p, r = .good p ∨ r = .malformed p →
      let fits : Nat :=
        if p.kind ≠ 8 then 1
        else if own.kind = 1 then 4 * (own.payload.getD 1 0).toNat
        else if own.kind = 2 then 4
        else if own.kind = 3 then 1
        else 0
      if p.kind ≠ 8 ∧ p.kind ≠ 9 ∧ p.kind ≠ 10 then fails 3 t
      else if p.dest ≠ own.source then fails 4 t
      else if p.source ≠ own.dest then fails 5 t
      else if p.cls ≠ own.cls then fails 6 t
      else if p.tag ≠ own.tag then fails 7 t
      else if p.payload.length ≠ fits then fails 8 t
      else if p.kind = 8 then t = attemptEnd own (.acked p.payload) s
      else if p.kind = 9 then t = attemptEnd own (.nak (p.payload.getD 0 0)) s
      else t = attemptEnd own (.deferred (p.payload.getD 0 0)) s

/-- A reception is counted by its result, ends the attempt whose window parcel it is, and is disposed of: discarded, given
a NAK MALFORMED where it is broken in form only, unsolicited, handed to Intake, or ignored; the link goes to ANSWERING
with an answer and to IDLE without one (R34, R36, R37, R38). Counting comes before the attempt end (model's choice, log
15). A line that ends no reception changes nothing (model's choice, log 8). After a mark fault SLINE is low, since 1.75 bt
where no sample told of its edge, and otherwise high (R133, R134; model's choice, log 5). No answer is sent to an own
number (R7); that the decision on such a call stands is read from R36 and R88 (DEDUCED, log 30). -/
def Obligations.ReceptionCountedAndDisposed : Prop :=
  ∀ (items : List LineItem) (window : Option Parcel) (now s : State), now.inReset = false → s = lineEdge now →
    s.link.act = .listening window →
    let ends : RxResult → State → State := fun r t => match window with
      | some own => endWindow own r t
      | none => t
    let own : BitVec 5 → Prop := fun d => d ≠ 0 ∧ (d = s.cfg.ident.primary ∨ d = s.cfg.ident.aliasId)
    let is : RxResult → State → Prop := fun r t =>
      receive s.bt items = some r → exec (.parcelReceived items) now = .next (endEvent t)
    (receive s.bt items = none → exec (.parcelReceived items) now = .next (endEvent s)) ∧
    is .markFault (markLow (toIdle .ignoring (ends .markFault (count .markFaults s)))) ∧
    is .overrun (unanswered .ignoring (ends .overrun (count .malformed s))) ∧
    is .overlength (unanswered .ignoring (ends .overlength (count .malformed s))) ∧
    is .badCheck (unanswered .busy (ends .badCheck (count .rxCheckErrors s))) ∧
    ∀ p : Parcel,
      let received := count .rxParcels s
      let broken := ends (.malformed p) (count .malformed received)
      let whole := ends (.good p) received
      let formOnly := p.kind.toNat ≤ 6 ∧ own p.dest ∧ p.dest ≠ 31 ∧ p.source ≠ 0 ∧ p.source ≠ 31 ∧ ¬ own p.source
      (formOnly → is (.malformed p) (answered p 9 [0x05] broken)) ∧
      (¬ formOnly → is (.malformed p) (unanswered .busy broken)) ∧
      (p.kind.toNat ≤ 6 → p.dest ≠ 0 → ¬ own p.dest → is (.good p) (unanswered .busy whole)) ∧
      (p.kind.toNat ≤ 6 → p.dest = 0 ∨ own p.dest → is (.good p) (match intake p whole with
        | (none, t) => unanswered .busy t
        | (some a, t) => if own p.source then unanswered .busy t else answered p a.kind a.payload t)) ∧
      (p.kind = 8 ∨ p.kind = 9 ∨ p.kind = 10 →
        (window = none → own p.dest → is (.good p) (unanswered .busy (raise .unsolicited whole))) ∧
        (window ≠ none ∨ ¬ own p.dest → is (.good p) (unanswered .busy whole)))

/-- Steps 2 and 3 of the Intake decision: a HOLD sets the incoming hold timers of its classes while IN_EN is 1, whatever
the intake and doze states, and is never answered; a ROUSE is handed to the Doze Unit, which wakes or cancels a pending
doze while ROUSE_WAKE is 1, and if unicast is answered ACK or DEFER DOZING while intake is enabled (R88, R89, R119). That
a HOLD is honoured whatever its class and tag is the model's choice (log 27). -/
def Obligations.HoldAndRouseAtIntake : Prop :=
  ∀ (p : Parcel) (s : State),
    (p.kind = 5 → ∃ v : Vector (Option Timer) 4,
      intake p s = (none, if s.cfg.holdcfg.inEn then raise .holdIn { s with hold := { s.hold with timers := v } } else s) ∧
      let quanta := (p.payload.getD 1 0).toNat * 256 + (p.payload.getD 2 0).toNat
      ∀ c : Fin 4, v[c] =
        if (p.payload.getD 0 0).getLsbD c = false then s.hold.timers[c]
        else if quanta = 0 then none
        else some { us := quanta * (32 * 2 ^ s.cfg.linkcfg.rate.toNat), cyc := s.div + 1 }) ∧
    (p.kind = 6 →
      let w : State :=
        if s.cfg.dozecfg.rouseWake = false ∨ s.doze.state = .awake then s
        else if s.doze.state = .pending then { s with doze := { s.doze with state := .awake } }
        else
          let t := raise .woken { s with doze := { s.doze with state := .awake, causes := s.doze.causes ||| 2#4 } }
          { t with events := { t.events with edgeWoken := true } }
      (p.dest = 0 → intake p s = (none, w)) ∧
      (p.dest ≠ 0 → intake p s =
        if s.sctl.intakeEn = false then (none, w)
        else if w.doze.state = .dozing then (some ⟨10, [0x13]⟩, w)
        else (some ⟨8, []⟩, forgotten p (renewed p w))))

/-- Steps 4 and 5, for PUT, FETCH, SWAP, CLAIM and RELEASE: while intake is off the call ends with no answer and no
effect; while dozing a PUT that matches a wake filter wakes the controller and is decided as in an awake one, and every
other such call has no effect and is answered DEFER DOZING if it is unicast and ANSWER_IN_DOZE is 1, and otherwise not at
all (R88, R90, R91, R146, R149). HOLD and ROUSE are HoldAndRouseAtIntake, NAK MALFORMED is ReceptionCountedAndDisposed. -/
def Obligations.IntakeOffOrDozing : Prop :=
  ∀ (p : Parcel) (s : State), p.kind.toNat ≤ 4 →
    let hit : Nat := if p.dest = 0 then 2 else if p.dest = s.cfg.ident.primary then 0 else 1
    let fits : Fin 4 → Prop := fun i =>
      let f := s.cfg.filters[i]
      p.kind = 0 ∧ f.valid = true ∧ (f.source = 0 ∨ f.source = p.source) ∧ f.idset.getLsbD hit = true ∧
        (p.payload = [] → f.mask = 0) ∧ ∀ first rest, p.payload = first :: rest → first &&& f.mask = f.pattern &&& f.mask
    (s.sctl.intakeEn = false → intake p s = (none, s)) ∧
    (s.sctl.intakeEn = true → s.doze.state = .dozing →
      ((∀ i, ¬ fits i) →
        intake p s = (if p.dest ≠ 0 ∧ s.cfg.dozecfg.answerInDoze = true then some ⟨10, [0x13]⟩ else none, s)) ∧
      (∀ i : Fin 4, fits i → (∀ j : Fin 4, j < i → ¬ fits j) →
        let t := raise .woken { s with doze := { s.doze with
          state := .awake, causes := s.doze.causes ||| 4#4, filter := BitVec.ofFin i } }
        intake p s = intake p { t with events := { t.events with edgeWoken := true } }))

/-- Step 6: a CLAIM is refused while CLAIM_EN is 0, granted where there is no holder, renewed for the holder and deferred
for any other source; a RELEASE ends the claim of the holder and is refused for any other source; a PUT, FETCH or SWAP of
another source is deferred while there is a holder (R78, R79, R80, R81, R88). -/
def Obligations.ClaimStep : Prop :=
  ∀ (p : Parcel) (s : State), intakeOpen s → p.dest ≠ 0 →
    let lease := s.cfg.ident.lease
    let leaseTimer := Timer.start s.div (lease.toNat * 1000)
    (p.kind = 3 →
      (s.cfg.ident.claimEn = false → intake p s = (some ⟨9, [0x06]⟩, s)) ∧
      (s.cfg.ident.claimEn = true → s.sess.holder = none → intake p s = (some ⟨8, [lease]⟩, forgotten p
        (raise .claimTaken { s with sess := { s.sess with holder := some p.source, leaseTimer := leaseTimer } }))) ∧
      (s.cfg.ident.claimEn = true → s.sess.holder = some p.source → intake p s = (some ⟨8, [lease]⟩, forgotten p
        { s with sess := { s.sess with leaseTimer := leaseTimer } })) ∧
      (s.cfg.ident.claimEn = true → ∀ h, s.sess.holder = some h → h ≠ p.source → intake p s = (some ⟨10, [0x12]⟩, s))) ∧
    (p.kind = 4 →
      (s.sess.holder = some p.source → intake p s = (some ⟨8, []⟩, forgotten p (raise .claimEnded
        { s with sess := { s.sess with holder := none, leaseTimer := none, lastEnd := .released } }))) ∧
      (s.sess.holder ≠ some p.source → intake p s = (some ⟨9, [0x04]⟩, s))) ∧
    (p.kind.toNat ≤ 2 → ∀ h, s.sess.holder = some h → h ≠ p.source → intake p s = (some ⟨10, [0x12]⟩, s))

/-- Step 7: a unicast PUT or SWAP whose tag, not 0, and kind stand in the record of its source, with REPEAT_EN 1, is a
repeat, and no other call is: it is answered ACK from the record, counted, and served no further; a repeat of the holder
renews the lease (R88, R93). A call that is no repeat is served in full, as FetchAndSwapServed and PutsRouted say. -/
def Obligations.RepeatsAnsweredFromRecord : Prop :=
  (∀ (p : Parcel) (s : State) (r : RepeatRecord), s.repeatRecord p = some r ↔
    s.cfg.ident.repeatEn = true ∧ p.tag ≠ 0 ∧ (∃ i : Fin 30, p.source.toNat = i.val + 1 ∧ s.intake.repeats[i] = some r) ∧
      r.tag = p.tag ∧ (p.kind = 0 ∧ r.kind = .put ∨ p.kind = 2 ∧ r.kind = .swap)) ∧
  ∀ (p : Parcel) (s : State) (i : Fin 30) (r : RepeatRecord), intakeOpen s → p.dest ≠ 0 →
    (s.sess.holder = none ∨ s.sess.holder = some p.source) →
    s.cfg.ident.repeatEn = true → p.tag ≠ 0 → p.source.toNat = i.val + 1 →
    s.intake.repeats[i] = some r → r.tag = p.tag →
    (p.kind = 0 ∧ r.kind = .put ∨ p.kind = 2 ∧ r.kind = .swap) →
    intake p s = (some ⟨8, if p.kind = 0 then [] else
        [r.value.extractLsb' 24 8, r.value.extractLsb' 16 8, r.value.extractLsb' 8 8, r.value.extractLsb' 0 8]⟩,
      renewed p (count .repeats (raise .repeatSeen s)))

/-- Step 8 for FETCH and SWAP: a FETCH returns the committed values of its entries, or NAK RANGE, or NAK DENIED; a SWAP
returns the committed value and replaces it, marking the entry remote-modified with BOARD_SWAPPED, or is refused likewise.
Steps 9 and 10 follow (R81, R88, R94, R110, R111). -/
def Obligations.FetchAndSwapServed : Prop :=
  ∀ (p : Parcel) (s : State), intakeOpen s → p.dest ≠ 0 →
    (s.sess.holder = none ∨ s.sess.holder = some p.source) → s.repeatRecord p = none →
    let start := (p.payload.getD 0 0).toNat
    let word : Word → List Byte := fun w =>
      [w.extractLsb' 24 8, w.extractLsb' 16 8, w.extractLsb' 8 8, w.extractLsb' 0 8]
    (p.kind = 1 →
      let n := (p.payload.getD 1 0).toNat
      let open' : Prop := ∀ i : Fin 64, start ≤ i.val → i.val < start + n → s.board[i].remoteRead = true
      (n = 0 ∨ 8 < n ∨ 64 < start + n → intake p s = (some ⟨9, [0x02]⟩, forgotten p s)) ∧
      (n ≠ 0 → n ≤ 8 → start + n ≤ 64 → ¬ open' → intake p s = (some ⟨9, [0x03]⟩, forgotten p s)) ∧
      (n ≠ 0 → n ≤ 8 → start + n ≤ 64 → open' → intake p s =
        (some ⟨8, (List.range n).flatMap fun k => word ((s.board[start + k]?.map BoardEntry.committed).getD 0)⟩,
          forgotten p (renewed p s)))) ∧
    (p.kind = 2 →
      (64 ≤ start → intake p s = (some ⟨9, [0x02]⟩, forgotten p s)) ∧
      ∀ i : Fin 64, i.val = start →
        let e := s.board[i]
        let new : Word := p.payload.getD 1 0 ++ p.payload.getD 2 0 ++ p.payload.getD 3 0 ++ p.payload.getD 4 0
        (e.remoteWrite = false → intake p s = (some ⟨9, [0x03]⟩, forgotten p s)) ∧
        (e.remoteWrite = true → intake p s = (some ⟨8, word e.committed⟩, remembered p .swap e.committed (renewed p
          (raise .boardSwapped { s with board := s.board.set i { e with committed := new, modified := true } })))))

/-- Step 8 for PUT: the first routing entry that matches its source, identity hit and class, or else the default route,
delivers it at the tail of an inbox with the next arrival number, defers or drops it where that inbox is full, discards
it, or refuses it; a broadcast is never answered (R88, R94, R96, R97, R98, R100, R102, R103). A full inbox is one that
holds at least its quota (model's choice, log 13). -/
def Obligations.PutsRouted : Prop :=
  ∀ (p : Parcel) (s : State), intakeOpen s → p.kind = 0 →
    (p.dest = 0 ∨ ((s.sess.holder = none ∨ s.sess.holder = some p.source) ∧ s.repeatRecord p = none)) →
    ∀ (action : RouteAction) (n : Fin 4),
    let hit : IdHit := if p.dest = 0 then .broadcast else if p.dest = s.cfg.ident.primary then .primary else .aliasHit
    let place : Nat := if p.dest = 0 then 2 else if p.dest = s.cfg.ident.primary then 0 else 1
    let fits : Fin 16 → Prop := fun i =>
      let r := s.cfg.routes[i]
      r.valid = true ∧ (r.source = 0 ∨ r.source = p.source) ∧ r.idset.getLsbD place = true ∧
        r.classes.getLsbD p.cls.toNat = true
    ((∃ i, fits i ∧ (∀ j, j < i → ¬ fits j) ∧ s.cfg.routes[i].action = action ∧ s.cfg.routes[i].inbox = n) ∨
      ((∀ i, ¬ fits i) ∧ s.cfg.routecfg.action = action ∧ s.cfg.routecfg.inbox = n)) →
    let answer : BitVec 4 → List Byte → Option Reply := fun k b => if p.dest = 0 then none else some ⟨k, b⟩
    let acked : State → State := fun t => if p.dest = 0 then t else remembered p .put 0 (renewed p t)
    let turned : State → State := fun t => if p.dest = 0 then t else forgotten p t
    let full := s.cfg.quota[n].toNat ≤ s.intake.inboxes[n].length
    let record : InRecord := ⟨p.source, hit, p.cls, if p.dest = 0 then 0 else p.tag, p.payload, s.intake.arrival⟩
    (action = .deliver → ¬ full → intake p s = (answer 8 [], acked (evalInbox n { s with intake := { s.intake with
      inboxes := s.intake.inboxes.set n (s.intake.inboxes[n] ++ [record]), arrival := s.intake.arrival + 1 } }))) ∧
    (action = .deliver → full → intake p s = (answer 10 [0x11],
      turned (count .inboxDrops (raise (if p.dest = 0 then .inboxDropped else .inboxDeferred) s)))) ∧
    (action = .discard → intake p s = (answer 8 [], acked s)) ∧
    (action = .refuse → intake p s = (answer 9 [0x01], turned s))

/-! ## Timers -/

/-- What each expiry does: an incoming hold, a backoff and a refresh timer, the responder lease, a mirror, the doze idle
timer and the stuck timer, and the entry of doze (R54, R73, R82, R120, R125, R135, R143, R144). An expiry given as a
command acts whatever time its running timer still has (model's choice, log 3); the expiry of a timer that does not run,
and doze entered where its conditions do not hold, leave only the end of an event (model's choice, log 4); when the stuck
timer can expire where no sample told of a low line is the model's choice too (log 5). -/
def Obligations.ExpiriesTakeEffect : Prop :=
  ∀ (c : Fin 4) (k : Nat) (now s : State), now.inReset = false → s = timerEdge now →
    let stuck := raise .lineStuck { abandon s with link := { (abandon s).link with
      act := .stuck, bus := .ignoring, line := { s.link.line with
        pulled := true, low := some (s.link.line.low.getD 0), stuck := none } } }
    let canStick := s.link.act ≠ .off ∧ s.link.act ≠ .stuck ∧
      (s.link.line.stuck ≠ none ∨ (s.link.line.low = none ∧ s.cfg.linkcfg.stuckLimit ≠ 0))
    let doze : DozeUnit := { state := .dozing, idle := none, causes := 0, filter := 0 }
    exec (.incomingHoldExpiry c) now = .next (endEvent { s with hold := { s.hold with
      timers := s.hold.timers.set c none } }) ∧
    exec (.backoffExpiry c) now = .next (endEvent { s with calls := { s.calls with
      backoff := s.calls.backoff.set c none } }) ∧
    exec .refreshTimerExpiry now = .next (endEvent (if s.hold.refresh = none then s else
      { s with hold := { s.hold with refresh := none, pendAssert := s.hold.pendAssert ||| s.hold.asserted } })) ∧
    exec .leaseExpiry now = .next (endEvent (if s.sess.leaseTimer = none then s else
      raise .claimEnded { s with sess := { s.sess with holder := none, leaseTimer := none, lastEnd := .expired } })) ∧
    (∀ e m, 1 ≤ k → k ≤ s.sess.stack.length → s.sess.stack[s.sess.stack.length - k]? = some e → e.mirror = some m →
      exec (.mirrorExpiry k) now = .next (endEvent (raise .leaseLapsed { s with sess := { s.sess with
        stack := s.sess.stack.set (s.sess.stack.length - k) { e with mirror := none, lapsed := true } } }))) ∧
    ((∀ e ∈ s.sess.stack[s.sess.stack.length - k]?, 1 ≤ k → k ≤ s.sess.stack.length → e.mirror = none) →
      exec (.mirrorExpiry k) now = .next (endEvent s)) ∧
    exec .dozeIdleExpiry now = .next (endEvent (if s.doze.idle = none then s else
      { s with doze := { s.doze with state := .pending, idle := none } })) ∧
    exec .stuckTimerExpiry now = .next (endEvent (if canStick then stuck else s)) ∧
    exec .dozeEntered now = .next (endEvent (
      if s.doze.state = .pending ∧ s.link.act = .idle ∧ s.hold.pendAssert = 0 ∧ s.hold.pendRelease = 0 ∧
          s.hold.manual = none then raise .dozeEntered { s with doze := doze }
      else s))

/-! ## Invariants -/

/-- The state after reset meets every invariant. -/
def Obligations.ResetStateIsLegal : Prop :=
  IntFollows State.reset ∧ ConfigLegal State.reset ∧ UnnamedBitsClear State.reset ∧ InboxesFit State.reset ∧ RepeatsLegal State.reset ∧
    HoldSets State.reset ∧ ClaimCoherent State.reset ∧ DozeCoherent State.reset ∧ QueuesCoherent State.reset ∧
    SessionsCoherent State.reset ∧ TagsCoherent State.reset ∧ AttemptsBounded State.reset

/-- Every step keeps INT# at the level its condition gives (R155), the configuration within the values that its rules
accept (R21, R85, R99, R101, R122, R130, R141, R149), the sticky bits of EVST within bits 26:5, and the bits of EVEN and
STAGEH that have no name at 0 (R44, R151, R152). -/
def Obligations.StepKeepsInterruptAndConfiguration : Prop :=
  ∀ s t : State, step s = .next t → (IntFollows s → IntFollows t) ∧ (ConfigLegal s → ConfigLegal t) ∧
    (UnnamedBitsClear s → UnnamedBitsClear t)

/-- Every step keeps each inbox within its quota with legal records, and the repeat records legal (R92, R100, R101). -/
def Obligations.StepKeepsInboxesAndRepeats : Prop :=
  ∀ s t : State, step s = .next t → (InboxesFit s → InboxesFit t) ∧ (RepeatsLegal s → RepeatsLegal t)

/-- Every step keeps the asserted set and the pending sets as R122 and R123 relate them, the lease timer with a holder
(R77), and the Doze Unit with the link and its idle conditions (R43, R144, R148). That the idle timer follows its
conditions at the end of every event is the model's choice (log 14). -/
def Obligations.StepKeepsHoldClaimAndDoze : Prop :=
  ∀ s t : State, step s = .next t →
    (HoldSets s → HoldSets t) ∧ (ClaimCoherent s → ClaimCoherent t) ∧ (DozeCoherent s → DozeCoherent t)

/-- Every step keeps slots, class queues, Completion Queue, current call and chain successor in agreement (R47, R48, R49,
R60, R62, R68). -/
def Obligations.StepKeepsQueues : Prop :=
  ∀ s t : State, step s = .next t → QueuesCoherent s → QueuesCoherent t

/-- Every step keeps the Session Stack within 6 entries of distinct nodes, and the session gate with the one CLAIM or
RELEASE that is ACTIVE (R70, R71). -/
def Obligations.StepKeepsSessions : Prop :=
  ∀ s t : State, step s = .next t → QueuesCoherent s → SessionsCoherent s → SessionsCoherent t

/-- Every step keeps at most one tag in use per destination, equal to its tag table entry (R50, R56, R57), and attempts,
losses, backoff timers and pending cancellations within what R52 to R55 and R65 allow. -/
def Obligations.StepKeepsTagsAndAttempts : Prop :=
  ∀ s t : State, step s = .next t → QueuesCoherent s →
    (TagsCoherent s → TagsCoherent t) ∧ (AttemptsBounded s → AttemptsBounded t)

/-! ## The whole machine -/

/-- No event from the bus and no expiry shows or changes anything by a staged value or a staged flag: two states that
differ in these alone go to states that differ in these alone (R107, R110, R111). -/
def Obligations.StagedValuesInvisible : Prop :=
  ∀ (c : Instr) (s₁ s₂ t₁ t₂ : State), isBusEvent c = true →
    let alike : State → State → Prop := fun a b => a = { b with board := a.board } ∧
      ∀ i : Fin 64, a.board[i] = { b.board[i] with staged := a.board[i].staged, isStaged := a.board[i].isStaged }
    alike s₁ s₂ → exec c s₁ = .next t₁ → exec c s₂ = .next t₂ →
    alike t₁ t₂ ∧ (∀ i : Fin 64, t₁.board[i].staged = s₁.board[i].staged ∧ t₁.board[i].isStaged = s₁.board[i].isStaged)

/-- Quarantine ends by QUARANTINE_CLEAR, LINK_RESTART and the resets alone (R42, R139); a committed value changes by
PUBLISH, PUBLISH_FORCE, a good SWAP to an own identity and the hardware resets alone (R106); the Session Stack changes by
the push of an own CLAIM answered ACK, the pop of an own RELEASE answered ACK or NAK NOT_HOLDER, SESSION_DROP and the
resets alone, and only at its top (R70, R72, R74, R75); the holder of the claim changes by a good CLAIM or RELEASE to an
own identity, the lease's end, BREAK_CLAIM and the resets alone (R78, R79, R82, R83). Every row is taken well-formed, and
in the state in which it finds the controller: expiries that come before it on its edge are rows of their own (R132). -/
def Obligations.OnlyTheseRowsChange : Prop :=
  ∀ (c : Instr) (now s t : State), c.wellFormed = true → exec c now = .next t → s = found c now →
    let claims : State → List (BitVec 5 × BitVec 5 × BitVec 8) := fun u =>
      u.sess.stack.map fun e => (e.node, e.identity, e.lease)
    -- a parcel of one of these kinds received with a good result, and its destination
    let receives : List (BitVec 4) → (Parcel → Prop) → Prop := fun kinds holds => ∃ items p,
      c = .parcelReceived items ∧ (∃ w, s.link.act = .listening w) ∧ receive s.bt items = some (.good p) ∧
        p.kind ∈ kinds ∧ holds p
    let own : Parcel → Prop := fun p => p.dest ≠ 0 ∧ (p.dest = s.cfg.ident.primary ∨ p.dest = s.cfg.ident.aliasId)
    -- an answer that R33 accepts, to the own call of this kind
    let accepts : BitVec 4 → (Parcel → Prop) → Prop := fun kind holds => ∃ items r call a n,
      c = .parcelReceived items ∧ s.link.act = .listening (some call) ∧ receive s.bt items = some r ∧
        accept call r = .accepted a ∧ s.calls.current = some n ∧ s.calls.slots[n].kind = kind ∧ holds a
    (s.link.quarantine = true → t.link.quarantine = false →
      c = .quarantineClear ∨ c = .linkRestart ∨ isReset c = true) ∧
    (∀ i : Fin 64, t.board[i].committed ≠ s.board[i].committed →
      (∃ arg, c = .publish arg ∨ c = .publishForce arg) ∨ receives [2] own ∨ c = .reset ∨ c = .powerOn) ∧
    (claims t = claims s ∨
      (accepts 3 (fun a => a.kind = 8) ∧ ∃ e, claims t = e :: claims s) ∨
      (accepts 4 (fun a => a.kind = 8 ∨ (a.kind = 9 ∧ a.payload.head? = some 0x04#8)) ∧ claims t = (claims s).tail) ∨
      (c = .sessionDrop ∧ claims t = (claims s).tail) ∨ (isReset c = true ∧ claims t = [])) ∧
    (t.sess.holder ≠ s.sess.holder →
      receives [3, 4] own ∨ c = .leaseExpiry ∨ c = .breakClaim ∨ isReset c = true)
end

