-- ==== Sys2Proof/Laws/State.lean ====
section
/-! SUPPORT. The small lemmas of the updates of State: what each update leaves alone (one conjunction, which simp takes
apart) and what it makes of the block it changes. -/

namespace Sys2Proof.Machine

variable (s : State)

@[simp] theorem raise_frame (e : Event) :
    (raise e s).pending = s.pending ∧
    (raise e s).inReset = s.inReset ∧
    (raise e s).cfg = s.cfg ∧
    (raise e s).sctl = s.sctl ∧
    (raise e s).host = s.host ∧
    (raise e s).link = s.link ∧
    (raise e s).calls = s.calls ∧
    (raise e s).sess = s.sess ∧
    (raise e s).intake = s.intake ∧
    (raise e s).board = s.board ∧
    (raise e s).hold = s.hold ∧
    (raise e s).doze = s.doze :=
  ⟨rfl, rfl, rfl, rfl, rfl, rfl, rfl, rfl, rfl, rfl, rfl, rfl⟩
@[simp] theorem raise_events (e : Event) : (raise e s).events =
    { s.events with sticky := s.events.sticky ||| e.mask, edgeRaised := s.events.edgeRaised ||| e.mask } := rfl

@[simp] theorem updateInt_frame :
    (updateInt s).pending = s.pending ∧
    (updateInt s).inReset = s.inReset ∧
    (updateInt s).cfg = s.cfg ∧
    (updateInt s).sctl = s.sctl ∧
    (updateInt s).host = s.host ∧
    (updateInt s).link = s.link ∧
    (updateInt s).calls = s.calls ∧
    (updateInt s).sess = s.sess ∧
    (updateInt s).intake = s.intake ∧
    (updateInt s).board = s.board ∧
    (updateInt s).hold = s.hold ∧
    (updateInt s).doze = s.doze :=
  ⟨rfl, rfl, rfl, rfl, rfl, rfl, rfl, rfl, rfl, rfl, rfl, rfl⟩
@[simp] theorem updateInt_events : (updateInt s).events =
    { s.events with intLow := s.interrupt } := rfl

@[simp] theorem clearEdge_frame :
    (clearEdge s).pending = s.pending ∧
    (clearEdge s).inReset = s.inReset ∧
    (clearEdge s).cfg = s.cfg ∧
    (clearEdge s).sctl = s.sctl ∧
    (clearEdge s).host = s.host ∧
    (clearEdge s).link = s.link ∧
    (clearEdge s).calls = s.calls ∧
    (clearEdge s).sess = s.sess ∧
    (clearEdge s).intake = s.intake ∧
    (clearEdge s).board = s.board ∧
    (clearEdge s).hold = s.hold ∧
    (clearEdge s).doze = s.doze :=
  ⟨rfl, rfl, rfl, rfl, rfl, rfl, rfl, rfl, rfl, rfl, rfl, rfl⟩
@[simp] theorem clearEdge_events : (clearEdge s).events =
    { s.events with edgeRaised := 0, edgeWoken := false, edgeBegun := false, edgeFell := false } := rfl

@[simp] theorem markEdge_frame :
    (markEdge s).pending = s.pending ∧
    (markEdge s).inReset = s.inReset ∧
    (markEdge s).cfg = s.cfg ∧
    (markEdge s).sctl = s.sctl ∧
    (markEdge s).host = s.host ∧
    (markEdge s).link = s.link ∧
    (markEdge s).calls = s.calls ∧
    (markEdge s).sess = s.sess ∧
    (markEdge s).intake = s.intake ∧
    (markEdge s).board = s.board ∧
    (markEdge s).hold = s.hold ∧
    (markEdge s).doze = s.doze :=
  ⟨rfl, rfl, rfl, rfl, rfl, rfl, rfl, rfl, rfl, rfl, rfl, rfl⟩
@[simp] theorem markEdge_events : (markEdge s).events =
    { s.events with edgeBegun := true } := rfl

@[simp] theorem markFall_frame :
    (markFall s).pending = s.pending ∧
    (markFall s).inReset = s.inReset ∧
    (markFall s).cfg = s.cfg ∧
    (markFall s).sctl = s.sctl ∧
    (markFall s).host = s.host ∧
    (markFall s).link = s.link ∧
    (markFall s).calls = s.calls ∧
    (markFall s).sess = s.sess ∧
    (markFall s).intake = s.intake ∧
    (markFall s).board = s.board ∧
    (markFall s).hold = s.hold ∧
    (markFall s).doze = s.doze :=
  ⟨rfl, rfl, rfl, rfl, rfl, rfl, rfl, rfl, rfl, rfl, rfl, rfl⟩
@[simp] theorem markFall_events : (markFall s).events =
    { s.events with edgeFell := true } := rfl

@[simp] theorem evstRead_frame :
    (evstRead s).pending = s.pending ∧
    (evstRead s).inReset = s.inReset ∧
    (evstRead s).cfg = s.cfg ∧
    (evstRead s).sctl = s.sctl ∧
    (evstRead s).link = s.link ∧
    (evstRead s).calls = s.calls ∧
    (evstRead s).sess = s.sess ∧
    (evstRead s).intake = s.intake ∧
    (evstRead s).board = s.board ∧
    (evstRead s).hold = s.hold ∧
    (evstRead s).doze = s.doze :=
  ⟨rfl, rfl, rfl, rfl, rfl, rfl, rfl, rfl, rfl, rfl, rfl⟩
@[simp] theorem evstRead_host : (evstRead s).host =
    { s.host with readData := s.evst } := rfl
@[simp] theorem evstRead_events : (evstRead s).events =
    { s.events with sticky := if s.sctl.rdclr then 0 else s.events.sticky } := rfl

@[simp] theorem setAct_frame (a : Activity) :
    (setAct a s).pending = s.pending ∧
    (setAct a s).inReset = s.inReset ∧
    (setAct a s).cfg = s.cfg ∧
    (setAct a s).sctl = s.sctl ∧
    (setAct a s).host = s.host ∧
    (setAct a s).calls = s.calls ∧
    (setAct a s).sess = s.sess ∧
    (setAct a s).intake = s.intake ∧
    (setAct a s).board = s.board ∧
    (setAct a s).hold = s.hold ∧
    (setAct a s).doze = s.doze ∧
    (setAct a s).events = s.events :=
  ⟨rfl, rfl, rfl, rfl, rfl, rfl, rfl, rfl, rfl, rfl, rfl, rfl⟩
@[simp] theorem setAct_link (a : Activity) : (setAct a s).link =
    { s.link with act := a } := rfl

@[simp] theorem toIdle_frame (b : Bus) :
    (toIdle b s).pending = s.pending ∧
    (toIdle b s).inReset = s.inReset ∧
    (toIdle b s).cfg = s.cfg ∧
    (toIdle b s).sctl = s.sctl ∧
    (toIdle b s).host = s.host ∧
    (toIdle b s).calls = s.calls ∧
    (toIdle b s).sess = s.sess ∧
    (toIdle b s).intake = s.intake ∧
    (toIdle b s).board = s.board ∧
    (toIdle b s).hold = s.hold ∧
    (toIdle b s).doze = s.doze ∧
    (toIdle b s).events = s.events :=
  ⟨rfl, rfl, rfl, rfl, rfl, rfl, rfl, rfl, rfl, rfl, rfl, rfl⟩
@[simp] theorem toIdle_link (b : Bus) : (toIdle b s).link =
    { s.link with act := .idle, bus := b } := rfl

@[simp] theorem setLine_frame (l : Line) :
    (setLine l s).pending = s.pending ∧
    (setLine l s).inReset = s.inReset ∧
    (setLine l s).cfg = s.cfg ∧
    (setLine l s).sctl = s.sctl ∧
    (setLine l s).host = s.host ∧
    (setLine l s).calls = s.calls ∧
    (setLine l s).sess = s.sess ∧
    (setLine l s).intake = s.intake ∧
    (setLine l s).board = s.board ∧
    (setLine l s).hold = s.hold ∧
    (setLine l s).doze = s.doze ∧
    (setLine l s).events = s.events :=
  ⟨rfl, rfl, rfl, rfl, rfl, rfl, rfl, rfl, rfl, rfl, rfl, rfl⟩
@[simp] theorem setLine_link (l : Line) : (setLine l s).link =
    { s.link with line := l } := rfl

@[simp] theorem lineRises_frame :
    (lineRises s).pending = s.pending ∧
    (lineRises s).inReset = s.inReset ∧
    (lineRises s).cfg = s.cfg ∧
    (lineRises s).sctl = s.sctl ∧
    (lineRises s).host = s.host ∧
    (lineRises s).calls = s.calls ∧
    (lineRises s).sess = s.sess ∧
    (lineRises s).intake = s.intake ∧
    (lineRises s).board = s.board ∧
    (lineRises s).hold = s.hold ∧
    (lineRises s).doze = s.doze ∧
    (lineRises s).events = s.events :=
  ⟨rfl, rfl, rfl, rfl, rfl, rfl, rfl, rfl, rfl, rfl, rfl, rfl⟩
@[simp] theorem lineRises_link : (lineRises s).link =
    { s.link with line := { s.link.line with pulled := false, low := none, stuck := none } } := rfl

@[simp] theorem enterSettling_frame :
    (enterSettling s).pending = s.pending ∧
    (enterSettling s).inReset = s.inReset ∧
    (enterSettling s).cfg = s.cfg ∧
    (enterSettling s).sctl = s.sctl ∧
    (enterSettling s).host = s.host ∧
    (enterSettling s).calls = s.calls ∧
    (enterSettling s).sess = s.sess ∧
    (enterSettling s).intake = s.intake ∧
    (enterSettling s).board = s.board ∧
    (enterSettling s).hold = s.hold ∧
    (enterSettling s).doze = s.doze ∧
    (enterSettling s).events = s.events :=
  ⟨rfl, rfl, rfl, rfl, rfl, rfl, rfl, rfl, rfl, rfl, rfl, rfl⟩
@[simp] theorem enterSettling_link : (enterSettling s).link =
    { s.link with act := .settling, bus := .ignoring, line := { s.link.line with stuck := if s.link.line.low.isSome then s.stuckTimer 0 else none } } := rfl

@[simp] theorem followPin_frame :
    (followPin s).pending = s.pending ∧
    (followPin s).inReset = s.inReset ∧
    (followPin s).cfg = s.cfg ∧
    (followPin s).sctl = s.sctl ∧
    (followPin s).host = s.host ∧
    (followPin s).calls = s.calls ∧
    (followPin s).sess = s.sess ∧
    (followPin s).intake = s.intake ∧
    (followPin s).board = s.board ∧
    (followPin s).hold = s.hold ∧
    (followPin s).doze = s.doze ∧
    (followPin s).events = s.events :=
  ⟨rfl, rfl, rfl, rfl, rfl, rfl, rfl, rfl, rfl, rfl, rfl, rfl⟩
@[simp] theorem followPin_link : (followPin s).link =
    { s.link with line := { s.link.line.sample with low := if s.link.line.sample.pulled then some ((s.link.line.sample.low.map (· + 1)).getD 0) else none } } := rfl

@[simp] theorem updSlot_frame (n : SlotId) (f : Slot → Slot) :
    (updSlot n f s).pending = s.pending ∧
    (updSlot n f s).inReset = s.inReset ∧
    (updSlot n f s).cfg = s.cfg ∧
    (updSlot n f s).sctl = s.sctl ∧
    (updSlot n f s).host = s.host ∧
    (updSlot n f s).link = s.link ∧
    (updSlot n f s).sess = s.sess ∧
    (updSlot n f s).intake = s.intake ∧
    (updSlot n f s).board = s.board ∧
    (updSlot n f s).hold = s.hold ∧
    (updSlot n f s).doze = s.doze ∧
    (updSlot n f s).events = s.events :=
  ⟨rfl, rfl, rfl, rfl, rfl, rfl, rfl, rfl, rfl, rfl, rfl, rfl⟩
@[simp] theorem updSlot_calls (n : SlotId) (f : Slot → Slot) : (updSlot n f s).calls =
    { s.calls with slots := s.calls.slots.set n (f s.calls.slots[n]) } := rfl

@[simp] theorem setHoldTimer_frame (c : Fin 4) (t : Option Timer) :
    (setHoldTimer c t s).pending = s.pending ∧
    (setHoldTimer c t s).inReset = s.inReset ∧
    (setHoldTimer c t s).cfg = s.cfg ∧
    (setHoldTimer c t s).sctl = s.sctl ∧
    (setHoldTimer c t s).host = s.host ∧
    (setHoldTimer c t s).link = s.link ∧
    (setHoldTimer c t s).calls = s.calls ∧
    (setHoldTimer c t s).sess = s.sess ∧
    (setHoldTimer c t s).intake = s.intake ∧
    (setHoldTimer c t s).board = s.board ∧
    (setHoldTimer c t s).doze = s.doze ∧
    (setHoldTimer c t s).events = s.events :=
  ⟨rfl, rfl, rfl, rfl, rfl, rfl, rfl, rfl, rfl, rfl, rfl, rfl⟩
@[simp] theorem setHoldTimer_hold (c : Fin 4) (t : Option Timer) : (setHoldTimer c t s).hold =
    { s.hold with timers := s.hold.timers.set c t } := rfl

@[simp] theorem setStack_frame (st : List SessEntry) :
    (setStack st s).pending = s.pending ∧
    (setStack st s).inReset = s.inReset ∧
    (setStack st s).cfg = s.cfg ∧
    (setStack st s).sctl = s.sctl ∧
    (setStack st s).host = s.host ∧
    (setStack st s).link = s.link ∧
    (setStack st s).calls = s.calls ∧
    (setStack st s).intake = s.intake ∧
    (setStack st s).board = s.board ∧
    (setStack st s).hold = s.hold ∧
    (setStack st s).doze = s.doze ∧
    (setStack st s).events = s.events :=
  ⟨rfl, rfl, rfl, rfl, rfl, rfl, rfl, rfl, rfl, rfl, rfl, rfl⟩
@[simp] theorem setStack_sess (st : List SessEntry) : (setStack st s).sess =
    { s.sess with stack := st } := rfl

@[simp] theorem popSession_frame :
    (popSession s).pending = s.pending ∧
    (popSession s).inReset = s.inReset ∧
    (popSession s).cfg = s.cfg ∧
    (popSession s).sctl = s.sctl ∧
    (popSession s).host = s.host ∧
    (popSession s).link = s.link ∧
    (popSession s).calls = s.calls ∧
    (popSession s).intake = s.intake ∧
    (popSession s).board = s.board ∧
    (popSession s).hold = s.hold ∧
    (popSession s).doze = s.doze ∧
    (popSession s).events = s.events :=
  ⟨rfl, rfl, rfl, rfl, rfl, rfl, rfl, rfl, rfl, rfl, rfl, rfl⟩
@[simp] theorem popSession_sess : (popSession s).sess =
    { s.sess with stack := s.sess.stack.tail } := rfl

@[simp] theorem restartLease_frame :
    (restartLease s).pending = s.pending ∧
    (restartLease s).inReset = s.inReset ∧
    (restartLease s).cfg = s.cfg ∧
    (restartLease s).sctl = s.sctl ∧
    (restartLease s).host = s.host ∧
    (restartLease s).link = s.link ∧
    (restartLease s).calls = s.calls ∧
    (restartLease s).intake = s.intake ∧
    (restartLease s).board = s.board ∧
    (restartLease s).hold = s.hold ∧
    (restartLease s).doze = s.doze ∧
    (restartLease s).events = s.events :=
  ⟨rfl, rfl, rfl, rfl, rfl, rfl, rfl, rfl, rfl, rfl, rfl, rfl⟩
@[simp] theorem restartLease_sess : (restartLease s).sess =
    { s.sess with leaseTimer := Timer.start s.div (s.cfg.ident.lease.toNat * 1000) } := rfl

@[simp] theorem endClaim_frame (c : EndCause) :
    (endClaim c s).pending = s.pending ∧
    (endClaim c s).inReset = s.inReset ∧
    (endClaim c s).cfg = s.cfg ∧
    (endClaim c s).sctl = s.sctl ∧
    (endClaim c s).host = s.host ∧
    (endClaim c s).link = s.link ∧
    (endClaim c s).calls = s.calls ∧
    (endClaim c s).intake = s.intake ∧
    (endClaim c s).board = s.board ∧
    (endClaim c s).hold = s.hold ∧
    (endClaim c s).doze = s.doze :=
  ⟨rfl, rfl, rfl, rfl, rfl, rfl, rfl, rfl, rfl, rfl, rfl⟩
@[simp] theorem endClaim_sess (c : EndCause) : (endClaim c s).sess =
    { s.sess with holder := none, leaseTimer := none, lastEnd := c } := rfl

@[simp] theorem takeClaim_frame (n : BitVec 5) :
    (takeClaim n s).pending = s.pending ∧
    (takeClaim n s).inReset = s.inReset ∧
    (takeClaim n s).cfg = s.cfg ∧
    (takeClaim n s).sctl = s.sctl ∧
    (takeClaim n s).host = s.host ∧
    (takeClaim n s).link = s.link ∧
    (takeClaim n s).calls = s.calls ∧
    (takeClaim n s).intake = s.intake ∧
    (takeClaim n s).board = s.board ∧
    (takeClaim n s).hold = s.hold ∧
    (takeClaim n s).doze = s.doze :=
  ⟨rfl, rfl, rfl, rfl, rfl, rfl, rfl, rfl, rfl, rfl, rfl⟩
@[simp] theorem takeClaim_sess (n : BitVec 5) : (takeClaim n s).sess =
    { s.sess with holder := some n, leaseTimer := Timer.start s.div (s.cfg.ident.lease.toNat * 1000) } := rfl

@[simp] theorem mirrorExpires_frame (k : Nat) :
    (mirrorExpires k s).pending = s.pending ∧
    (mirrorExpires k s).inReset = s.inReset ∧
    (mirrorExpires k s).cfg = s.cfg ∧
    (mirrorExpires k s).sctl = s.sctl ∧
    (mirrorExpires k s).host = s.host ∧
    (mirrorExpires k s).link = s.link ∧
    (mirrorExpires k s).calls = s.calls ∧
    (mirrorExpires k s).intake = s.intake ∧
    (mirrorExpires k s).board = s.board ∧
    (mirrorExpires k s).hold = s.hold ∧
    (mirrorExpires k s).doze = s.doze :=
  ⟨rfl, rfl, rfl, rfl, rfl, rfl, rfl, rfl, rfl, rfl, rfl⟩

@[simp] theorem setDoze_frame (d : DozeState) :
    (setDoze d s).pending = s.pending ∧
    (setDoze d s).inReset = s.inReset ∧
    (setDoze d s).cfg = s.cfg ∧
    (setDoze d s).sctl = s.sctl ∧
    (setDoze d s).host = s.host ∧
    (setDoze d s).link = s.link ∧
    (setDoze d s).calls = s.calls ∧
    (setDoze d s).sess = s.sess ∧
    (setDoze d s).intake = s.intake ∧
    (setDoze d s).board = s.board ∧
    (setDoze d s).hold = s.hold ∧
    (setDoze d s).events = s.events :=
  ⟨rfl, rfl, rfl, rfl, rfl, rfl, rfl, rfl, rfl, rfl, rfl, rfl⟩
@[simp] theorem setDoze_doze (d : DozeState) : (setDoze d s).doze =
    { s.doze with state := d } := rfl

@[simp] theorem addCause_frame (c : WakeCause) :
    (addCause c s).pending = s.pending ∧
    (addCause c s).inReset = s.inReset ∧
    (addCause c s).cfg = s.cfg ∧
    (addCause c s).sctl = s.sctl ∧
    (addCause c s).host = s.host ∧
    (addCause c s).link = s.link ∧
    (addCause c s).calls = s.calls ∧
    (addCause c s).sess = s.sess ∧
    (addCause c s).intake = s.intake ∧
    (addCause c s).board = s.board ∧
    (addCause c s).hold = s.hold ∧
    (addCause c s).events = s.events :=
  ⟨rfl, rfl, rfl, rfl, rfl, rfl, rfl, rfl, rfl, rfl, rfl, rfl⟩
@[simp] theorem addCause_doze (c : WakeCause) : (addCause c s).doze =
    { s.doze with causes := s.doze.causes ||| c.mask } := rfl

@[simp] theorem wakeUp_frame (c : WakeCause) :
    (wakeUp c s).pending = s.pending ∧
    (wakeUp c s).inReset = s.inReset ∧
    (wakeUp c s).cfg = s.cfg ∧
    (wakeUp c s).sctl = s.sctl ∧
    (wakeUp c s).host = s.host ∧
    (wakeUp c s).link = s.link ∧
    (wakeUp c s).calls = s.calls ∧
    (wakeUp c s).sess = s.sess ∧
    (wakeUp c s).intake = s.intake ∧
    (wakeUp c s).board = s.board ∧
    (wakeUp c s).hold = s.hold :=
  ⟨rfl, rfl, rfl, rfl, rfl, rfl, rfl, rfl, rfl, rfl, rfl⟩
@[simp] theorem wakeUp_doze (c : WakeCause) : (wakeUp c s).doze =
    { s.doze with state := .awake, causes := s.doze.causes ||| c.mask } := rfl

@[simp] theorem wakeByLine_frame (c : WakeCause) :
    (wakeByLine c s).pending = s.pending ∧
    (wakeByLine c s).inReset = s.inReset ∧
    (wakeByLine c s).cfg = s.cfg ∧
    (wakeByLine c s).sctl = s.sctl ∧
    (wakeByLine c s).host = s.host ∧
    (wakeByLine c s).link = s.link ∧
    (wakeByLine c s).calls = s.calls ∧
    (wakeByLine c s).sess = s.sess ∧
    (wakeByLine c s).intake = s.intake ∧
    (wakeByLine c s).board = s.board ∧
    (wakeByLine c s).hold = s.hold :=
  ⟨rfl, rfl, rfl, rfl, rfl, rfl, rfl, rfl, rfl, rfl, rfl⟩
@[simp] theorem wakeByLine_doze (c : WakeCause) : (wakeByLine c s).doze =
    { s.doze with state := .awake, causes := s.doze.causes ||| c.mask } := rfl

@[simp] theorem updateIdle_frame :
    (updateIdle s).pending = s.pending ∧
    (updateIdle s).inReset = s.inReset ∧
    (updateIdle s).cfg = s.cfg ∧
    (updateIdle s).sctl = s.sctl ∧
    (updateIdle s).host = s.host ∧
    (updateIdle s).link = s.link ∧
    (updateIdle s).calls = s.calls ∧
    (updateIdle s).sess = s.sess ∧
    (updateIdle s).intake = s.intake ∧
    (updateIdle s).board = s.board ∧
    (updateIdle s).hold = s.hold ∧
    (updateIdle s).events = s.events :=
  ⟨rfl, rfl, rfl, rfl, rfl, rfl, rfl, rfl, rfl, rfl, rfl, rfl⟩

@[simp] theorem updateAsserted_frame :
    (updateAsserted s).pending = s.pending ∧
    (updateAsserted s).inReset = s.inReset ∧
    (updateAsserted s).cfg = s.cfg ∧
    (updateAsserted s).sctl = s.sctl ∧
    (updateAsserted s).host = s.host ∧
    (updateAsserted s).link = s.link ∧
    (updateAsserted s).calls = s.calls ∧
    (updateAsserted s).sess = s.sess ∧
    (updateAsserted s).intake = s.intake ∧
    (updateAsserted s).board = s.board ∧
    (updateAsserted s).doze = s.doze ∧
    (updateAsserted s).events = s.events :=
  ⟨rfl, rfl, rfl, rfl, rfl, rfl, rfl, rfl, rfl, rfl, rfl, rfl⟩

@[simp] theorem refreshExpires_frame :
    (refreshExpires s).pending = s.pending ∧
    (refreshExpires s).inReset = s.inReset ∧
    (refreshExpires s).cfg = s.cfg ∧
    (refreshExpires s).sctl = s.sctl ∧
    (refreshExpires s).host = s.host ∧
    (refreshExpires s).link = s.link ∧
    (refreshExpires s).calls = s.calls ∧
    (refreshExpires s).sess = s.sess ∧
    (refreshExpires s).intake = s.intake ∧
    (refreshExpires s).board = s.board ∧
    (refreshExpires s).doze = s.doze ∧
    (refreshExpires s).events = s.events :=
  ⟨rfl, rfl, rfl, rfl, rfl, rfl, rfl, rfl, rfl, rfl, rfl, rfl⟩
@[simp] theorem refreshExpires_hold : (refreshExpires s).hold =
    { s.hold with refresh := none, pendAssert := s.hold.pendAssert ||| s.hold.asserted } := rfl

@[simp] theorem closeSlot_frame (n : SlotId) (o : CallOutcome) :
    (closeSlot n o s).pending = s.pending ∧
    (closeSlot n o s).inReset = s.inReset ∧
    (closeSlot n o s).cfg = s.cfg ∧
    (closeSlot n o s).sctl = s.sctl ∧
    (closeSlot n o s).host = s.host ∧
    (closeSlot n o s).link = s.link ∧
    (closeSlot n o s).sess = s.sess ∧
    (closeSlot n o s).intake = s.intake ∧
    (closeSlot n o s).board = s.board ∧
    (closeSlot n o s).hold = s.hold ∧
    (closeSlot n o s).doze = s.doze ∧
    (closeSlot n o s).events = s.events :=
  ⟨rfl, rfl, rfl, rfl, rfl, rfl, rfl, rfl, rfl, rfl, rfl, rfl⟩

@[simp] theorem appendRecord_frame (n : SlotId) (x : Slot) (o : CallOutcome) :
    (appendRecord n x o s).pending = s.pending ∧
    (appendRecord n x o s).inReset = s.inReset ∧
    (appendRecord n x o s).cfg = s.cfg ∧
    (appendRecord n x o s).sctl = s.sctl ∧
    (appendRecord n x o s).host = s.host ∧
    (appendRecord n x o s).link = s.link ∧
    (appendRecord n x o s).sess = s.sess ∧
    (appendRecord n x o s).intake = s.intake ∧
    (appendRecord n x o s).board = s.board ∧
    (appendRecord n x o s).hold = s.hold ∧
    (appendRecord n x o s).doze = s.doze ∧
    (appendRecord n x o s).events = s.events :=
  ⟨rfl, rfl, rfl, rfl, rfl, rfl, rfl, rfl, rfl, rfl, rfl, rfl⟩
@[simp] theorem appendRecord_calls (n : SlotId) (x : Slot) (o : CallOutcome) : (appendRecord n x o s).calls =
    { s.calls with cq := s.calls.cq ++ [x.record n o s.calls.seq], seq := s.calls.seq + 1 } := rfl

@[simp] theorem closePointer_frame (n : SlotId) (x : Slot) (o : CallOutcome) (a : Option SlotId) :
    (closePointer n x o a s).pending = s.pending ∧
    (closePointer n x o a s).inReset = s.inReset ∧
    (closePointer n x o a s).cfg = s.cfg ∧
    (closePointer n x o a s).sctl = s.sctl ∧
    (closePointer n x o a s).host = s.host ∧
    (closePointer n x o a s).link = s.link ∧
    (closePointer n x o a s).sess = s.sess ∧
    (closePointer n x o a s).intake = s.intake ∧
    (closePointer n x o a s).board = s.board ∧
    (closePointer n x o a s).hold = s.hold ∧
    (closePointer n x o a s).doze = s.doze ∧
    (closePointer n x o a s).events = s.events :=
  ⟨rfl, rfl, rfl, rfl, rfl, rfl, rfl, rfl, rfl, rfl, rfl, rfl⟩

@[simp] theorem endCurrent_frame :
    (endCurrent s).pending = s.pending ∧
    (endCurrent s).inReset = s.inReset ∧
    (endCurrent s).cfg = s.cfg ∧
    (endCurrent s).sctl = s.sctl ∧
    (endCurrent s).host = s.host ∧
    (endCurrent s).sess = s.sess ∧
    (endCurrent s).intake = s.intake ∧
    (endCurrent s).board = s.board ∧
    (endCurrent s).hold = s.hold ∧
    (endCurrent s).doze = s.doze ∧
    (endCurrent s).events = s.events :=
  ⟨rfl, rfl, rfl, rfl, rfl, rfl, rfl, rfl, rfl, rfl, rfl⟩
@[simp] theorem endCurrent_calls : (endCurrent s).calls =
    { s.calls with current := none } := rfl
@[simp] theorem endCurrent_link : (endCurrent s).link =
    { s.link with callAge := none } := rfl

@[simp] theorem startBackoff_frame (c : Fin 4) :
    (startBackoff c s).pending = s.pending ∧
    (startBackoff c s).inReset = s.inReset ∧
    (startBackoff c s).cfg = s.cfg ∧
    (startBackoff c s).sctl = s.sctl ∧
    (startBackoff c s).host = s.host ∧
    (startBackoff c s).link = s.link ∧
    (startBackoff c s).sess = s.sess ∧
    (startBackoff c s).intake = s.intake ∧
    (startBackoff c s).board = s.board ∧
    (startBackoff c s).hold = s.hold ∧
    (startBackoff c s).doze = s.doze ∧
    (startBackoff c s).events = s.events :=
  ⟨rfl, rfl, rfl, rfl, rfl, rfl, rfl, rfl, rfl, rfl, rfl, rfl⟩
@[simp] theorem startBackoff_calls (c : Fin 4) : (startBackoff c s).calls =
    { s.calls with backoff := s.calls.backoff.set c (Timer.start s.div (s.cfg.linkcfg.retryDelay.toNat * 100)) } := rfl

@[simp] theorem clearQuarantine_frame :
    (clearQuarantine s).pending = s.pending ∧
    (clearQuarantine s).inReset = s.inReset ∧
    (clearQuarantine s).cfg = s.cfg ∧
    (clearQuarantine s).sctl = s.sctl ∧
    (clearQuarantine s).host = s.host ∧
    (clearQuarantine s).calls = s.calls ∧
    (clearQuarantine s).sess = s.sess ∧
    (clearQuarantine s).intake = s.intake ∧
    (clearQuarantine s).board = s.board ∧
    (clearQuarantine s).hold = s.hold ∧
    (clearQuarantine s).doze = s.doze ∧
    (clearQuarantine s).events = s.events :=
  ⟨rfl, rfl, rfl, rfl, rfl, rfl, rfl, rfl, rfl, rfl, rfl, rfl⟩
@[simp] theorem clearQuarantine_link : (clearQuarantine s).link =
    { s.link with faults := 0, quarantine := false } := rfl

@[simp] theorem nodeConflict_frame :
    (nodeConflict s).pending = s.pending ∧
    (nodeConflict s).inReset = s.inReset ∧
    (nodeConflict s).cfg = s.cfg ∧
    (nodeConflict s).sctl = s.sctl ∧
    (nodeConflict s).host = s.host ∧
    (nodeConflict s).calls = s.calls ∧
    (nodeConflict s).sess = s.sess ∧
    (nodeConflict s).intake = s.intake ∧
    (nodeConflict s).board = s.board ∧
    (nodeConflict s).hold = s.hold ∧
    (nodeConflict s).doze = s.doze :=
  ⟨rfl, rfl, rfl, rfl, rfl, rfl, rfl, rfl, rfl, rfl, rfl⟩
@[simp] theorem nodeConflict_link : (nodeConflict s).link =
    { s.link with conflicts := if s.link.conflicts = 255 then 255 else s.link.conflicts + 1 } := rfl

@[simp] theorem configRefused_frame :
    (configRefused s).pending = s.pending ∧
    (configRefused s).inReset = s.inReset ∧
    (configRefused s).cfg = s.cfg ∧
    (configRefused s).sctl = s.sctl ∧
    (configRefused s).host = s.host ∧
    (configRefused s).link = s.link ∧
    (configRefused s).calls = s.calls ∧
    (configRefused s).sess = s.sess ∧
    (configRefused s).intake = s.intake ∧
    (configRefused s).board = s.board ∧
    (configRefused s).hold = s.hold ∧
    (configRefused s).doze = s.doze :=
  ⟨rfl, rfl, rfl, rfl, rfl, rfl, rfl, rfl, rfl, rfl, rfl, rfl⟩

@[simp] theorem updCfg_frame (f : Configuration → Configuration) :
    (updCfg f s).pending = s.pending ∧
    (updCfg f s).inReset = s.inReset ∧
    (updCfg f s).sctl = s.sctl ∧
    (updCfg f s).host = s.host ∧
    (updCfg f s).link = s.link ∧
    (updCfg f s).calls = s.calls ∧
    (updCfg f s).sess = s.sess ∧
    (updCfg f s).intake = s.intake ∧
    (updCfg f s).board = s.board ∧
    (updCfg f s).hold = s.hold ∧
    (updCfg f s).doze = s.doze ∧
    (updCfg f s).events = s.events :=
  ⟨rfl, rfl, rfl, rfl, rfl, rfl, rfl, rfl, rfl, rfl, rfl, rfl⟩
@[simp] theorem updCfg_cfg (f : Configuration → Configuration) : (updCfg f s).cfg =
    f s.cfg := rfl

@[simp] theorem updHost_frame (f : HostRegs → HostRegs) :
    (updHost f s).pending = s.pending ∧
    (updHost f s).inReset = s.inReset ∧
    (updHost f s).cfg = s.cfg ∧
    (updHost f s).sctl = s.sctl ∧
    (updHost f s).link = s.link ∧
    (updHost f s).calls = s.calls ∧
    (updHost f s).sess = s.sess ∧
    (updHost f s).intake = s.intake ∧
    (updHost f s).board = s.board ∧
    (updHost f s).hold = s.hold ∧
    (updHost f s).doze = s.doze ∧
    (updHost f s).events = s.events :=
  ⟨rfl, rfl, rfl, rfl, rfl, rfl, rfl, rfl, rfl, rfl, rfl, rfl⟩
@[simp] theorem updHost_host (f : HostRegs → HostRegs) : (updHost f s).host =
    f s.host := rfl

@[simp] theorem writeFields_frame (f : SctlFields) :
    (writeFields f s).pending = s.pending ∧
    (writeFields f s).inReset = s.inReset ∧
    (writeFields f s).cfg = s.cfg ∧
    (writeFields f s).host = s.host ∧
    (writeFields f s).link = s.link ∧
    (writeFields f s).calls = s.calls ∧
    (writeFields f s).sess = s.sess ∧
    (writeFields f s).intake = s.intake ∧
    (writeFields f s).board = s.board ∧
    (writeFields f s).hold = s.hold ∧
    (writeFields f s).doze = s.doze ∧
    (writeFields f s).events = s.events :=
  ⟨rfl, rfl, rfl, rfl, rfl, rfl, rfl, rfl, rfl, rfl, rfl, rfl⟩
@[simp] theorem writeFields_sctl (f : SctlFields) : (writeFields f s).sctl =
    { intakeEn := f.intakeEn, irqEn := f.irqEn, rdclr := f.rdclr } := rfl

@[simp] theorem enqueue_frame (n : SlotId) :
    (enqueue n s).pending = s.pending ∧
    (enqueue n s).inReset = s.inReset ∧
    (enqueue n s).cfg = s.cfg ∧
    (enqueue n s).sctl = s.sctl ∧
    (enqueue n s).host = s.host ∧
    (enqueue n s).link = s.link ∧
    (enqueue n s).sess = s.sess ∧
    (enqueue n s).intake = s.intake ∧
    (enqueue n s).board = s.board ∧
    (enqueue n s).hold = s.hold ∧
    (enqueue n s).doze = s.doze ∧
    (enqueue n s).events = s.events :=
  ⟨rfl, rfl, rfl, rfl, rfl, rfl, rfl, rfl, rfl, rfl, rfl, rfl⟩
@[simp] theorem enqueue_calls (n : SlotId) : (enqueue n s).calls =
    { s.calls with slots := s.calls.slots.set n s.host.descriptor, queues := s.calls.queues.set s.host.cls (s.calls.queues[s.host.cls] ++ [n]) } := rfl

@[simp] theorem advanceTimers_frame :
    (advanceTimers s).pending = s.pending ∧
    (advanceTimers s).inReset = s.inReset ∧
    (advanceTimers s).cfg = s.cfg ∧
    (advanceTimers s).sctl = s.sctl ∧
    (advanceTimers s).host = s.host ∧
    (advanceTimers s).intake = s.intake ∧
    (advanceTimers s).board = s.board ∧
    (advanceTimers s).events = s.events :=
  ⟨rfl, rfl, rfl, rfl, rfl, rfl, rfl, rfl⟩

end Sys2Proof.Machine
end

