-- ==== Sys2Proof/Laws/Frames.lean ====
section
/-! SUPPORT. The frames of the shared operations: which blocks each of them leaves as they were. -/

namespace Sys2Proof.Machine

variable (s : State)

@[simp] theorem raiseIf_frame (b : Bool) (e : Event) :
    (raiseIf b e s).pending = s.pending ∧
    (raiseIf b e s).inReset = s.inReset ∧
    (raiseIf b e s).cfg = s.cfg ∧
    (raiseIf b e s).sctl = s.sctl ∧
    (raiseIf b e s).host = s.host ∧
    (raiseIf b e s).link = s.link ∧
    (raiseIf b e s).calls = s.calls ∧
    (raiseIf b e s).sess = s.sess ∧
    (raiseIf b e s).intake = s.intake ∧
    (raiseIf b e s).board = s.board ∧
    (raiseIf b e s).hold = s.hold ∧
    (raiseIf b e s).doze = s.doze := by
  unfold raiseIf; repeat' split
  all_goals simp

@[simp] theorem count_frame (c : Counter) :
    (count c s).pending = s.pending ∧
    (count c s).inReset = s.inReset ∧
    (count c s).cfg = s.cfg ∧
    (count c s).sctl = s.sctl ∧
    (count c s).host = s.host ∧
    (count c s).link = s.link ∧
    (count c s).calls = s.calls ∧
    (count c s).sess = s.sess ∧
    (count c s).intake = s.intake ∧
    (count c s).board = s.board ∧
    (count c s).hold = s.hold ∧
    (count c s).doze = s.doze := by
  simp [count]

@[simp] theorem evstClear_frame (w k : Word) :
    (evstClear w k s).pending = s.pending ∧
    (evstClear w k s).inReset = s.inReset ∧
    (evstClear w k s).cfg = s.cfg ∧
    (evstClear w k s).sctl = s.sctl ∧
    (evstClear w k s).host = s.host ∧
    (evstClear w k s).link = s.link ∧
    (evstClear w k s).calls = s.calls ∧
    (evstClear w k s).sess = s.sess ∧
    (evstClear w k s).intake = s.intake ∧
    (evstClear w k s).board = s.board ∧
    (evstClear w k s).hold = s.hold ∧
    (evstClear w k s).doze = s.doze := by
  unfold evstClear; repeat' split
  all_goals simp

@[simp] theorem advanceCell_frame :
    (advanceCell s).pending = s.pending ∧
    (advanceCell s).inReset = s.inReset ∧
    (advanceCell s).cfg = s.cfg ∧
    (advanceCell s).sctl = s.sctl ∧
    (advanceCell s).host = s.host ∧
    (advanceCell s).calls = s.calls ∧
    (advanceCell s).sess = s.sess ∧
    (advanceCell s).intake = s.intake ∧
    (advanceCell s).board = s.board ∧
    (advanceCell s).hold = s.hold ∧
    (advanceCell s).doze = s.doze ∧
    (advanceCell s).events = s.events := by
  unfold advanceCell; dsimp only; repeat' split
  all_goals simp

@[simp] theorem dropAnswer_frame :
    (dropAnswer s).pending = s.pending ∧
    (dropAnswer s).inReset = s.inReset ∧
    (dropAnswer s).cfg = s.cfg ∧
    (dropAnswer s).sctl = s.sctl ∧
    (dropAnswer s).host = s.host ∧
    (dropAnswer s).calls = s.calls ∧
    (dropAnswer s).sess = s.sess ∧
    (dropAnswer s).intake = s.intake ∧
    (dropAnswer s).board = s.board ∧
    (dropAnswer s).hold = s.hold ∧
    (dropAnswer s).doze = s.doze ∧
    (dropAnswer s).events = s.events := by
  unfold dropAnswer; repeat' split
  all_goals simp

@[simp] theorem rowHigh_frame :
    (rowHigh s).pending = s.pending ∧
    (rowHigh s).inReset = s.inReset ∧
    (rowHigh s).cfg = s.cfg ∧
    (rowHigh s).sctl = s.sctl ∧
    (rowHigh s).host = s.host ∧
    (rowHigh s).calls = s.calls ∧
    (rowHigh s).sess = s.sess ∧
    (rowHigh s).intake = s.intake ∧
    (rowHigh s).board = s.board ∧
    (rowHigh s).hold = s.hold ∧
    (rowHigh s).doze = s.doze ∧
    (rowHigh s).events = s.events := by
  unfold rowHigh; split
  all_goals simp

@[simp] theorem startLow_frame (a : Nat) :
    (startLow a s).pending = s.pending ∧
    (startLow a s).inReset = s.inReset ∧
    (startLow a s).cfg = s.cfg ∧
    (startLow a s).sctl = s.sctl ∧
    (startLow a s).host = s.host ∧
    (startLow a s).calls = s.calls ∧
    (startLow a s).sess = s.sess ∧
    (startLow a s).intake = s.intake ∧
    (startLow a s).board = s.board ∧
    (startLow a s).hold = s.hold ∧
    (startLow a s).doze = s.doze ∧
    (startLow a s).events = s.events := by
  unfold startLow; repeat' split
  all_goals simp

@[simp] theorem leadBegins_frame :
    (leadBegins s).pending = s.pending ∧
    (leadBegins s).inReset = s.inReset ∧
    (leadBegins s).cfg = s.cfg ∧
    (leadBegins s).sctl = s.sctl ∧
    (leadBegins s).host = s.host ∧
    (leadBegins s).calls = s.calls ∧
    (leadBegins s).sess = s.sess ∧
    (leadBegins s).intake = s.intake ∧
    (leadBegins s).board = s.board ∧
    (leadBegins s).hold = s.hold ∧
    (leadBegins s).doze = s.doze ∧
    (leadBegins s).events = s.events := by
  simp [leadBegins]

@[simp] theorem markSeen_frame :
    (markSeen s).pending = s.pending ∧
    (markSeen s).inReset = s.inReset ∧
    (markSeen s).cfg = s.cfg ∧
    (markSeen s).sctl = s.sctl ∧
    (markSeen s).host = s.host ∧
    (markSeen s).calls = s.calls ∧
    (markSeen s).sess = s.sess ∧
    (markSeen s).intake = s.intake ∧
    (markSeen s).board = s.board ∧
    (markSeen s).hold = s.hold ∧
    (markSeen s).doze = s.doze ∧
    (markSeen s).events = s.events := by
  simp [markSeen]

@[simp] theorem releaseLine_frame :
    (releaseLine s).pending = s.pending ∧
    (releaseLine s).inReset = s.inReset ∧
    (releaseLine s).cfg = s.cfg ∧
    (releaseLine s).sctl = s.sctl ∧
    (releaseLine s).host = s.host ∧
    (releaseLine s).calls = s.calls ∧
    (releaseLine s).sess = s.sess ∧
    (releaseLine s).intake = s.intake ∧
    (releaseLine s).board = s.board ∧
    (releaseLine s).hold = s.hold ∧
    (releaseLine s).doze = s.doze ∧
    (releaseLine s).events = s.events := by
  unfold releaseLine; repeat' split
  all_goals simp

@[simp] theorem busTaken_frame :
    (busTaken s).pending = s.pending ∧
    (busTaken s).inReset = s.inReset ∧
    (busTaken s).cfg = s.cfg ∧
    (busTaken s).sctl = s.sctl ∧
    (busTaken s).host = s.host ∧
    (busTaken s).calls = s.calls ∧
    (busTaken s).sess = s.sess ∧
    (busTaken s).intake = s.intake ∧
    (busTaken s).board = s.board ∧
    (busTaken s).hold = s.hold ∧
    (busTaken s).doze = s.doze ∧
    (busTaken s).events = s.events := by
  unfold busTaken; repeat' split
  all_goals simp

@[simp] theorem watchLine_frame :
    (watchLine s).pending = s.pending ∧
    (watchLine s).inReset = s.inReset ∧
    (watchLine s).cfg = s.cfg ∧
    (watchLine s).sctl = s.sctl ∧
    (watchLine s).host = s.host ∧
    (watchLine s).calls = s.calls ∧
    (watchLine s).sess = s.sess ∧
    (watchLine s).intake = s.intake ∧
    (watchLine s).board = s.board ∧
    (watchLine s).hold = s.hold ∧
    (watchLine s).doze = s.doze ∧
    (watchLine s).events = { s.events with edgeFell := (watchLine s).events.edgeFell } := by
  unfold watchLine; dsimp only; repeat' split
  all_goals simp

@[simp] theorem applyHold_frame (p : Parcel) :
    (applyHold p s).pending = s.pending ∧
    (applyHold p s).inReset = s.inReset ∧
    (applyHold p s).cfg = s.cfg ∧
    (applyHold p s).sctl = s.sctl ∧
    (applyHold p s).host = s.host ∧
    (applyHold p s).link = s.link ∧
    (applyHold p s).calls = s.calls ∧
    (applyHold p s).sess = s.sess ∧
    (applyHold p s).intake = s.intake ∧
    (applyHold p s).board = s.board ∧
    (applyHold p s).doze = s.doze := by
  unfold applyHold; repeat' split
  all_goals simp

@[simp] theorem evalInbox_frame (n : Fin 4) :
    (evalInbox n s).pending = s.pending ∧
    (evalInbox n s).inReset = s.inReset ∧
    (evalInbox n s).cfg = s.cfg ∧
    (evalInbox n s).sctl = s.sctl ∧
    (evalInbox n s).host = s.host ∧
    (evalInbox n s).link = s.link ∧
    (evalInbox n s).calls = s.calls ∧
    (evalInbox n s).sess = s.sess ∧
    (evalInbox n s).intake = s.intake ∧
    (evalInbox n s).board = s.board ∧
    (evalInbox n s).doze = s.doze ∧
    (evalInbox n s).events = s.events := by
  unfold evalInbox; repeat' split
  all_goals simp

@[simp] theorem holdSent_frame (k : HoldKind) (p : Parcel) :
    (holdSent k p s).pending = s.pending ∧
    (holdSent k p s).inReset = s.inReset ∧
    (holdSent k p s).cfg = s.cfg ∧
    (holdSent k p s).sctl = s.sctl ∧
    (holdSent k p s).host = s.host ∧
    (holdSent k p s).link = s.link ∧
    (holdSent k p s).calls = s.calls ∧
    (holdSent k p s).sess = s.sess ∧
    (holdSent k p s).intake = s.intake ∧
    (holdSent k p s).board = s.board ∧
    (holdSent k p s).doze = s.doze := by
  unfold holdSent; repeat' split
  all_goals simp

@[simp] theorem pushSession_frame (n i : BitVec 5) (l : BitVec 8) :
    (pushSession n i l s).pending = s.pending ∧
    (pushSession n i l s).inReset = s.inReset ∧
    (pushSession n i l s).cfg = s.cfg ∧
    (pushSession n i l s).sctl = s.sctl ∧
    (pushSession n i l s).host = s.host ∧
    (pushSession n i l s).link = s.link ∧
    (pushSession n i l s).calls = s.calls ∧
    (pushSession n i l s).intake = s.intake ∧
    (pushSession n i l s).board = s.board ∧
    (pushSession n i l s).hold = s.hold ∧
    (pushSession n i l s).doze = s.doze := by
  unfold pushSession; repeat' split
  all_goals simp

@[simp] theorem restartMirrors_frame (p : Parcel) :
    (restartMirrors p s).pending = s.pending ∧
    (restartMirrors p s).inReset = s.inReset ∧
    (restartMirrors p s).cfg = s.cfg ∧
    (restartMirrors p s).sctl = s.sctl ∧
    (restartMirrors p s).host = s.host ∧
    (restartMirrors p s).link = s.link ∧
    (restartMirrors p s).calls = s.calls ∧
    (restartMirrors p s).intake = s.intake ∧
    (restartMirrors p s).board = s.board ∧
    (restartMirrors p s).hold = s.hold ∧
    (restartMirrors p s).doze = s.doze := by
  simp [restartMirrors]

@[simp] theorem enterDoze_frame :
    (enterDoze s).pending = s.pending ∧
    (enterDoze s).inReset = s.inReset ∧
    (enterDoze s).cfg = s.cfg ∧
    (enterDoze s).sctl = s.sctl ∧
    (enterDoze s).host = s.host ∧
    (enterDoze s).link = s.link ∧
    (enterDoze s).calls = s.calls ∧
    (enterDoze s).sess = s.sess ∧
    (enterDoze s).intake = s.intake ∧
    (enterDoze s).board = s.board ∧
    (enterDoze s).hold = s.hold := by
  unfold enterDoze; repeat' split
  all_goals simp

@[simp] theorem dozeRouse_frame :
    (dozeRouse s).pending = s.pending ∧
    (dozeRouse s).inReset = s.inReset ∧
    (dozeRouse s).cfg = s.cfg ∧
    (dozeRouse s).sctl = s.sctl ∧
    (dozeRouse s).host = s.host ∧
    (dozeRouse s).link = s.link ∧
    (dozeRouse s).calls = s.calls ∧
    (dozeRouse s).sess = s.sess ∧
    (dozeRouse s).intake = s.intake ∧
    (dozeRouse s).board = s.board ∧
    (dozeRouse s).hold = s.hold := by
  unfold dozeRouse; repeat' split
  all_goals simp

@[simp] theorem wakeByFilter_frame (i : Fin 4) :
    (wakeByFilter i s).pending = s.pending ∧
    (wakeByFilter i s).inReset = s.inReset ∧
    (wakeByFilter i s).cfg = s.cfg ∧
    (wakeByFilter i s).sctl = s.sctl ∧
    (wakeByFilter i s).host = s.host ∧
    (wakeByFilter i s).link = s.link ∧
    (wakeByFilter i s).calls = s.calls ∧
    (wakeByFilter i s).sess = s.sess ∧
    (wakeByFilter i s).intake = s.intake ∧
    (wakeByFilter i s).board = s.board ∧
    (wakeByFilter i s).hold = s.hold := by
  simp [wakeByFilter]

@[simp] theorem advanceTag_frame (d : BitVec 5) :
    (advanceTag d s).pending = s.pending ∧
    (advanceTag d s).inReset = s.inReset ∧
    (advanceTag d s).cfg = s.cfg ∧
    (advanceTag d s).sctl = s.sctl ∧
    (advanceTag d s).host = s.host ∧
    (advanceTag d s).link = s.link ∧
    (advanceTag d s).sess = s.sess ∧
    (advanceTag d s).intake = s.intake ∧
    (advanceTag d s).board = s.board ∧
    (advanceTag d s).hold = s.hold ∧
    (advanceTag d s).doze = s.doze ∧
    (advanceTag d s).events = s.events := by
  unfold advanceTag; repeat' split
  all_goals simp

@[simp] theorem closeTag_frame (x : Slot) :
    (closeTag x s).pending = s.pending ∧
    (closeTag x s).inReset = s.inReset ∧
    (closeTag x s).cfg = s.cfg ∧
    (closeTag x s).sctl = s.sctl ∧
    (closeTag x s).host = s.host ∧
    (closeTag x s).link = s.link ∧
    (closeTag x s).sess = s.sess ∧
    (closeTag x s).intake = s.intake ∧
    (closeTag x s).board = s.board ∧
    (closeTag x s).hold = s.hold ∧
    (closeTag x s).doze = s.doze ∧
    (closeTag x s).events = s.events := by
  unfold closeTag; repeat' split
  all_goals simp

@[simp] theorem closeSession_frame (n : SlotId) (x : Slot) (o : CallOutcome) (i : BitVec 5) :
    (closeSession n x o i s).pending = s.pending ∧
    (closeSession n x o i s).inReset = s.inReset ∧
    (closeSession n x o i s).cfg = s.cfg ∧
    (closeSession n x o i s).sctl = s.sctl ∧
    (closeSession n x o i s).host = s.host ∧
    (closeSession n x o i s).link = s.link ∧
    (closeSession n x o i s).calls = s.calls ∧
    (closeSession n x o i s).intake = s.intake ∧
    (closeSession n x o i s).board = s.board ∧
    (closeSession n x o i s).hold = s.hold ∧
    (closeSession n x o i s).doze = s.doze := by
  unfold closeSession; dsimp only; repeat' split
  all_goals simp

@[simp] theorem closeCall_frame (n : SlotId) (o : CallOutcome) (i : BitVec 5) :
    (closeCall n o i s).pending = s.pending ∧
    (closeCall n o i s).inReset = s.inReset ∧
    (closeCall n o i s).cfg = s.cfg ∧
    (closeCall n o i s).sctl = s.sctl ∧
    (closeCall n o i s).host = s.host ∧
    (closeCall n o i s).link = s.link ∧
    (closeCall n o i s).intake = s.intake ∧
    (closeCall n o i s).board = s.board ∧
    (closeCall n o i s).hold = s.hold ∧
    (closeCall n o i s).doze = s.doze := by
  simp [closeCall]

@[simp] theorem closeChain_frame (fuel : Nat) (n : SlotId) (o : CallOutcome) (i : BitVec 5) :
    (closeChain fuel n o i s).pending = s.pending ∧
    (closeChain fuel n o i s).inReset = s.inReset ∧
    (closeChain fuel n o i s).cfg = s.cfg ∧
    (closeChain fuel n o i s).sctl = s.sctl ∧
    (closeChain fuel n o i s).host = s.host ∧
    (closeChain fuel n o i s).link = s.link ∧
    (closeChain fuel n o i s).intake = s.intake ∧
    (closeChain fuel n o i s).board = s.board ∧
    (closeChain fuel n o i s).hold = s.hold ∧
    (closeChain fuel n o i s).doze = s.doze := by
  induction fuel generalizing n o i s with
  | zero => simp [closeChain]
  | succ fuel ih =>
    unfold closeChain; dsimp only; repeat' split
    all_goals simp [ih]

@[simp] theorem decideOutcome_frame (n : SlotId) (o : CallOutcome) (i : BitVec 5) :
    (decideOutcome n o i s).pending = s.pending ∧
    (decideOutcome n o i s).inReset = s.inReset ∧
    (decideOutcome n o i s).cfg = s.cfg ∧
    (decideOutcome n o i s).sctl = s.sctl ∧
    (decideOutcome n o i s).host = s.host ∧
    (decideOutcome n o i s).link = s.link ∧
    (decideOutcome n o i s).intake = s.intake ∧
    (decideOutcome n o i s).board = s.board ∧
    (decideOutcome n o i s).hold = s.hold ∧
    (decideOutcome n o i s).doze = s.doze := closeChain_frame s _ n o i

@[simp] theorem callLost_frame :
    (callLost s).pending = s.pending ∧
    (callLost s).inReset = s.inReset ∧
    (callLost s).cfg = s.cfg ∧
    (callLost s).sctl = s.sctl ∧
    (callLost s).host = s.host ∧
    (callLost s).intake = s.intake ∧
    (callLost s).board = s.board ∧
    (callLost s).hold = s.hold ∧
    (callLost s).doze = s.doze := by
  unfold callLost; dsimp only; repeat' split
  all_goals simp

@[simp] theorem callWon_frame :
    (callWon s).pending = s.pending ∧
    (callWon s).inReset = s.inReset ∧
    (callWon s).cfg = s.cfg ∧
    (callWon s).sctl = s.sctl ∧
    (callWon s).host = s.host ∧
    (callWon s).link = s.link ∧
    (callWon s).sess = s.sess ∧
    (callWon s).intake = s.intake ∧
    (callWon s).board = s.board ∧
    (callWon s).hold = s.hold ∧
    (callWon s).doze = s.doze ∧
    (callWon s).events = s.events := by
  unfold callWon; repeat' split
  all_goals simp

@[simp] theorem callAbandoned_frame :
    (callAbandoned s).pending = s.pending ∧
    (callAbandoned s).inReset = s.inReset ∧
    (callAbandoned s).cfg = s.cfg ∧
    (callAbandoned s).sctl = s.sctl ∧
    (callAbandoned s).host = s.host ∧
    (callAbandoned s).intake = s.intake ∧
    (callAbandoned s).board = s.board ∧
    (callAbandoned s).hold = s.hold ∧
    (callAbandoned s).doze = s.doze := by
  unfold callAbandoned; dsimp only; repeat' split
  all_goals simp

@[simp] theorem callWithdrawn_frame :
    (callWithdrawn s).pending = s.pending ∧
    (callWithdrawn s).inReset = s.inReset ∧
    (callWithdrawn s).cfg = s.cfg ∧
    (callWithdrawn s).sctl = s.sctl ∧
    (callWithdrawn s).host = s.host ∧
    (callWithdrawn s).intake = s.intake ∧
    (callWithdrawn s).board = s.board ∧
    (callWithdrawn s).hold = s.hold ∧
    (callWithdrawn s).doze = s.doze := by
  unfold callWithdrawn; dsimp only; repeat' split
  all_goals simp

@[simp] theorem attemptEnd_frame (p : Parcel) (r : ExchangeResult) :
    (attemptEnd p r s).pending = s.pending ∧
    (attemptEnd p r s).inReset = s.inReset ∧
    (attemptEnd p r s).cfg = s.cfg ∧
    (attemptEnd p r s).sctl = s.sctl ∧
    (attemptEnd p r s).host = s.host ∧
    (attemptEnd p r s).intake = s.intake ∧
    (attemptEnd p r s).board = s.board ∧
    (attemptEnd p r s).hold = s.hold ∧
    (attemptEnd p r s).doze = s.doze := by
  unfold attemptEnd; dsimp only; repeat' split
  all_goals simp

@[simp] theorem beginContention_frame (o : Owner) (p : Parcel) :
    (beginContention o p s).pending = s.pending ∧
    (beginContention o p s).inReset = s.inReset ∧
    (beginContention o p s).cfg = s.cfg ∧
    (beginContention o p s).sctl = s.sctl ∧
    (beginContention o p s).host = s.host ∧
    (beginContention o p s).calls = s.calls ∧
    (beginContention o p s).sess = s.sess ∧
    (beginContention o p s).intake = s.intake ∧
    (beginContention o p s).board = s.board ∧
    (beginContention o p s).hold = s.hold ∧
    (beginContention o p s).doze = s.doze ∧
    (beginContention o p s).events = s.events := by
  simp [beginContention]

@[simp] theorem startCall_frame (n : SlotId) :
    (startCall n s).pending = s.pending ∧
    (startCall n s).inReset = s.inReset ∧
    (startCall n s).cfg = s.cfg ∧
    (startCall n s).sctl = s.sctl ∧
    (startCall n s).host = s.host ∧
    (startCall n s).intake = s.intake ∧
    (startCall n s).board = s.board ∧
    (startCall n s).hold = s.hold ∧
    (startCall n s).doze = s.doze ∧
    (startCall n s).events = s.events := by
  simp [startCall]

@[simp] theorem failStart_frame (n : SlotId) (o : CallOutcome) :
    (failStart n o s).pending = s.pending ∧
    (failStart n o s).inReset = s.inReset ∧
    (failStart n o s).cfg = s.cfg ∧
    (failStart n o s).sctl = s.sctl ∧
    (failStart n o s).host = s.host ∧
    (failStart n o s).link = s.link ∧
    (failStart n o s).intake = s.intake ∧
    (failStart n o s).board = s.board ∧
    (failStart n o s).hold = s.hold ∧
    (failStart n o s).doze = s.doze := by
  simp [failStart]

@[simp] theorem selectLoop_frame (fuel : Nat) :
    (selectLoop fuel s).pending = s.pending ∧
    (selectLoop fuel s).inReset = s.inReset ∧
    (selectLoop fuel s).cfg = s.cfg ∧
    (selectLoop fuel s).sctl = s.sctl ∧
    (selectLoop fuel s).host = s.host ∧
    (selectLoop fuel s).intake = s.intake ∧
    (selectLoop fuel s).board = s.board ∧
    (selectLoop fuel s).hold = s.hold ∧
    (selectLoop fuel s).doze = s.doze := by
  induction fuel generalizing s with
  | zero => simp [selectLoop]
  | succ fuel ih =>
    unfold selectLoop; repeat' split
    all_goals simp [ih]

@[simp] theorem select_frame :
    (select s).pending = s.pending ∧
    (select s).inReset = s.inReset ∧
    (select s).cfg = s.cfg ∧
    (select s).sctl = s.sctl ∧
    (select s).host = s.host ∧
    (select s).intake = s.intake ∧
    (select s).board = s.board ∧
    (select s).hold = s.hold ∧
    (select s).doze = s.doze := by
  unfold select; repeat' split
  all_goals simp

@[simp] theorem endEvent_frame :
    (endEvent s).pending = s.pending ∧
    (endEvent s).inReset = s.inReset ∧
    (endEvent s).cfg = s.cfg ∧
    (endEvent s).sctl = s.sctl ∧
    (endEvent s).host = s.host ∧
    (endEvent s).intake = s.intake ∧
    (endEvent s).board = s.board ∧
    (endEvent s).hold = s.hold := by
  simp [endEvent]

@[simp] theorem deliver_frame (n : Fin 4) (h : IdHit) (p : Parcel) :
    (deliver n h p s).pending = s.pending ∧
    (deliver n h p s).inReset = s.inReset ∧
    (deliver n h p s).cfg = s.cfg ∧
    (deliver n h p s).sctl = s.sctl ∧
    (deliver n h p s).host = s.host ∧
    (deliver n h p s).link = s.link ∧
    (deliver n h p s).calls = s.calls ∧
    (deliver n h p s).sess = s.sess ∧
    (deliver n h p s).board = s.board ∧
    (deliver n h p s).doze = s.doze ∧
    (deliver n h p s).events = s.events := by
  simp [deliver]

@[simp] theorem setRepeat_frame (n : BitVec 5) (r : Option RepeatRecord) :
    (setRepeat n r s).pending = s.pending ∧
    (setRepeat n r s).inReset = s.inReset ∧
    (setRepeat n r s).cfg = s.cfg ∧
    (setRepeat n r s).sctl = s.sctl ∧
    (setRepeat n r s).host = s.host ∧
    (setRepeat n r s).link = s.link ∧
    (setRepeat n r s).calls = s.calls ∧
    (setRepeat n r s).sess = s.sess ∧
    (setRepeat n r s).board = s.board ∧
    (setRepeat n r s).hold = s.hold ∧
    (setRepeat n r s).doze = s.doze ∧
    (setRepeat n r s).events = s.events := by
  unfold setRepeat; repeat' split
  all_goals simp

@[simp] theorem renewLease_frame (p : Parcel) (v : Served) :
    (renewLease p v s).pending = s.pending ∧
    (renewLease p v s).inReset = s.inReset ∧
    (renewLease p v s).cfg = s.cfg ∧
    (renewLease p v s).sctl = s.sctl ∧
    (renewLease p v s).host = s.host ∧
    (renewLease p v s).link = s.link ∧
    (renewLease p v s).calls = s.calls ∧
    (renewLease p v s).intake = s.intake ∧
    (renewLease p v s).board = s.board ∧
    (renewLease p v s).hold = s.hold ∧
    (renewLease p v s).doze = s.doze ∧
    (renewLease p v s).events = s.events := by
  unfold renewLease; repeat' split
  all_goals simp

@[simp] theorem updateRecord_frame (p : Parcel) (v : Served) :
    (updateRecord p v s).pending = s.pending ∧
    (updateRecord p v s).inReset = s.inReset ∧
    (updateRecord p v s).cfg = s.cfg ∧
    (updateRecord p v s).sctl = s.sctl ∧
    (updateRecord p v s).host = s.host ∧
    (updateRecord p v s).link = s.link ∧
    (updateRecord p v s).calls = s.calls ∧
    (updateRecord p v s).sess = s.sess ∧
    (updateRecord p v s).board = s.board ∧
    (updateRecord p v s).hold = s.hold ∧
    (updateRecord p v s).doze = s.doze ∧
    (updateRecord p v s).events = s.events := by
  unfold updateRecord; repeat' split
  all_goals simp

@[simp] theorem countFault_frame :
    (countFault s).pending = s.pending ∧
    (countFault s).inReset = s.inReset ∧
    (countFault s).cfg = s.cfg ∧
    (countFault s).sctl = s.sctl ∧
    (countFault s).host = s.host ∧
    (countFault s).calls = s.calls ∧
    (countFault s).sess = s.sess ∧
    (countFault s).intake = s.intake ∧
    (countFault s).board = s.board ∧
    (countFault s).hold = s.hold ∧
    (countFault s).doze = s.doze := by
  unfold countFault; repeat' split
  all_goals simp

@[simp] theorem sentOk_frame :
    (sentOk s).pending = s.pending ∧
    (sentOk s).inReset = s.inReset ∧
    (sentOk s).cfg = s.cfg ∧
    (sentOk s).sctl = s.sctl ∧
    (sentOk s).host = s.host ∧
    (sentOk s).calls = s.calls ∧
    (sentOk s).sess = s.sess ∧
    (sentOk s).intake = s.intake ∧
    (sentOk s).board = s.board ∧
    (sentOk s).hold = s.hold ∧
    (sentOk s).doze = s.doze := by
  simp [sentOk]

@[simp] theorem reportLost_frame (o : Owner) :
    (reportLost o s).pending = s.pending ∧
    (reportLost o s).inReset = s.inReset ∧
    (reportLost o s).cfg = s.cfg ∧
    (reportLost o s).sctl = s.sctl ∧
    (reportLost o s).host = s.host ∧
    (reportLost o s).intake = s.intake ∧
    (reportLost o s).board = s.board ∧
    (reportLost o s).hold = s.hold ∧
    (reportLost o s).doze = s.doze := by
  unfold reportLost; repeat' split
  all_goals simp

@[simp] theorem reportAbandoned_frame (o : Owner) :
    (reportAbandoned o s).pending = s.pending ∧
    (reportAbandoned o s).inReset = s.inReset ∧
    (reportAbandoned o s).cfg = s.cfg ∧
    (reportAbandoned o s).sctl = s.sctl ∧
    (reportAbandoned o s).host = s.host ∧
    (reportAbandoned o s).intake = s.intake ∧
    (reportAbandoned o s).board = s.board ∧
    (reportAbandoned o s).hold = s.hold ∧
    (reportAbandoned o s).doze = s.doze := by
  unfold reportAbandoned; repeat' split
  all_goals simp

@[simp] theorem reportWithdrawn_frame (o : Owner) :
    (reportWithdrawn o s).pending = s.pending ∧
    (reportWithdrawn o s).inReset = s.inReset ∧
    (reportWithdrawn o s).cfg = s.cfg ∧
    (reportWithdrawn o s).sctl = s.sctl ∧
    (reportWithdrawn o s).host = s.host ∧
    (reportWithdrawn o s).intake = s.intake ∧
    (reportWithdrawn o s).board = s.board ∧
    (reportWithdrawn o s).hold = s.hold ∧
    (reportWithdrawn o s).doze = s.doze := by
  unfold reportWithdrawn; repeat' split
  all_goals simp

@[simp] theorem reportBroken_frame (o : Owner) (p : Parcel) (b : BrokenBy) :
    (reportBroken o p b s).pending = s.pending ∧
    (reportBroken o p b s).inReset = s.inReset ∧
    (reportBroken o p b s).cfg = s.cfg ∧
    (reportBroken o p b s).sctl = s.sctl ∧
    (reportBroken o p b s).host = s.host ∧
    (reportBroken o p b s).intake = s.intake ∧
    (reportBroken o p b s).board = s.board ∧
    (reportBroken o p b s).hold = s.hold ∧
    (reportBroken o p b s).doze = s.doze := by
  unfold reportBroken; repeat' split
  all_goals simp

@[simp] theorem reportSent_frame (o : Owner) (p : Parcel) :
    (reportSent o p s).pending = s.pending ∧
    (reportSent o p s).inReset = s.inReset ∧
    (reportSent o p s).cfg = s.cfg ∧
    (reportSent o p s).sctl = s.sctl ∧
    (reportSent o p s).host = s.host ∧
    (reportSent o p s).intake = s.intake ∧
    (reportSent o p s).board = s.board ∧
    (reportSent o p s).doze = s.doze := by
  unfold reportSent; repeat' split
  all_goals simp

@[simp] theorem abandon_frame :
    (abandon s).pending = s.pending ∧
    (abandon s).inReset = s.inReset ∧
    (abandon s).cfg = s.cfg ∧
    (abandon s).sctl = s.sctl ∧
    (abandon s).host = s.host ∧
    (abandon s).intake = s.intake ∧
    (abandon s).board = s.board ∧
    (abandon s).hold = s.hold ∧
    (abandon s).doze = s.doze := by
  unfold abandon; repeat' split
  all_goals simp

@[simp] theorem countReception_frame (r : RxResult) :
    (countReception r s).pending = s.pending ∧
    (countReception r s).inReset = s.inReset ∧
    (countReception r s).cfg = s.cfg ∧
    (countReception r s).sctl = s.sctl ∧
    (countReception r s).host = s.host ∧
    (countReception r s).link = s.link ∧
    (countReception r s).calls = s.calls ∧
    (countReception r s).sess = s.sess ∧
    (countReception r s).intake = s.intake ∧
    (countReception r s).board = s.board ∧
    (countReception r s).hold = s.hold ∧
    (countReception r s).doze = s.doze := by
  unfold countReception; repeat' split
  all_goals simp

@[simp] theorem endWindow_frame (p : Parcel) (r : RxResult) :
    (endWindow p r s).pending = s.pending ∧
    (endWindow p r s).inReset = s.inReset ∧
    (endWindow p r s).cfg = s.cfg ∧
    (endWindow p r s).sctl = s.sctl ∧
    (endWindow p r s).host = s.host ∧
    (endWindow p r s).intake = s.intake ∧
    (endWindow p r s).board = s.board ∧
    (endWindow p r s).hold = s.hold ∧
    (endWindow p r s).doze = s.doze := by
  unfold endWindow; repeat' split
  all_goals simp

@[simp] theorem lineAfter_frame (r : RxResult) :
    (lineAfter r s).pending = s.pending ∧
    (lineAfter r s).inReset = s.inReset ∧
    (lineAfter r s).cfg = s.cfg ∧
    (lineAfter r s).sctl = s.sctl ∧
    (lineAfter r s).host = s.host ∧
    (lineAfter r s).calls = s.calls ∧
    (lineAfter r s).sess = s.sess ∧
    (lineAfter r s).intake = s.intake ∧
    (lineAfter r s).board = s.board ∧
    (lineAfter r s).hold = s.hold ∧
    (lineAfter r s).doze = s.doze ∧
    (lineAfter r s).events = s.events := by
  unfold lineAfter; repeat' split
  all_goals simp

@[simp] theorem enableLink_frame :
    (enableLink s).pending = s.pending ∧
    (enableLink s).inReset = s.inReset ∧
    (enableLink s).cfg = s.cfg ∧
    (enableLink s).sctl = s.sctl ∧
    (enableLink s).host = s.host ∧
    (enableLink s).calls = s.calls ∧
    (enableLink s).sess = s.sess ∧
    (enableLink s).intake = s.intake ∧
    (enableLink s).board = s.board ∧
    (enableLink s).hold = s.hold ∧
    (enableLink s).doze = s.doze := by
  unfold enableLink; repeat' split
  all_goals simp

@[simp] theorem disableLink_frame :
    (disableLink s).pending = s.pending ∧
    (disableLink s).inReset = s.inReset ∧
    (disableLink s).cfg = s.cfg ∧
    (disableLink s).sctl = s.sctl ∧
    (disableLink s).host = s.host ∧
    (disableLink s).intake = s.intake ∧
    (disableLink s).board = s.board ∧
    (disableLink s).hold = s.hold := by
  unfold disableLink; repeat' split
  all_goals simp

@[simp] theorem servePut_frame (h : IdHit) (p : Parcel) :
    (servePut h p s).2.pending = s.pending ∧
    (servePut h p s).2.inReset = s.inReset ∧
    (servePut h p s).2.cfg = s.cfg ∧
    (servePut h p s).2.sctl = s.sctl ∧
    (servePut h p s).2.host = s.host ∧
    (servePut h p s).2.link = s.link ∧
    (servePut h p s).2.calls = s.calls ∧
    (servePut h p s).2.sess = s.sess ∧
    (servePut h p s).2.board = s.board ∧
    (servePut h p s).2.doze = s.doze := by
  unfold servePut; repeat' split
  all_goals simp

@[simp] theorem serveSwap_frame (p : Parcel) :
    (serveSwap p s).2.2.pending = s.pending ∧
    (serveSwap p s).2.2.inReset = s.inReset ∧
    (serveSwap p s).2.2.cfg = s.cfg ∧
    (serveSwap p s).2.2.sctl = s.sctl ∧
    (serveSwap p s).2.2.host = s.host ∧
    (serveSwap p s).2.2.link = s.link ∧
    (serveSwap p s).2.2.calls = s.calls ∧
    (serveSwap p s).2.2.sess = s.sess ∧
    (serveSwap p s).2.2.intake = s.intake ∧
    (serveSwap p s).2.2.hold = s.hold ∧
    (serveSwap p s).2.2.doze = s.doze := by
  unfold serveSwap; dsimp only; repeat' split
  all_goals simp

@[simp] theorem finishCall_frame (p : Parcel) (v : Served) :
    (finishCall p v s).2.pending = s.pending ∧
    (finishCall p v s).2.inReset = s.inReset ∧
    (finishCall p v s).2.cfg = s.cfg ∧
    (finishCall p v s).2.sctl = s.sctl ∧
    (finishCall p v s).2.host = s.host ∧
    (finishCall p v s).2.link = s.link ∧
    (finishCall p v s).2.calls = s.calls ∧
    (finishCall p v s).2.board = s.board ∧
    (finishCall p v s).2.hold = s.hold ∧
    (finishCall p v s).2.doze = s.doze ∧
    (finishCall p v s).2.events = s.events := by
  simp [finishCall]

@[simp] theorem serveClaim_frame (p : Parcel) :
    (serveClaim p s).2.pending = s.pending ∧
    (serveClaim p s).2.inReset = s.inReset ∧
    (serveClaim p s).2.cfg = s.cfg ∧
    (serveClaim p s).2.sctl = s.sctl ∧
    (serveClaim p s).2.host = s.host ∧
    (serveClaim p s).2.link = s.link ∧
    (serveClaim p s).2.calls = s.calls ∧
    (serveClaim p s).2.intake = s.intake ∧
    (serveClaim p s).2.board = s.board ∧
    (serveClaim p s).2.hold = s.hold ∧
    (serveClaim p s).2.doze = s.doze := by
  unfold serveClaim; repeat' split
  all_goals simp

@[simp] theorem serveRelease_frame (p : Parcel) :
    (serveRelease p s).2.pending = s.pending ∧
    (serveRelease p s).2.inReset = s.inReset ∧
    (serveRelease p s).2.cfg = s.cfg ∧
    (serveRelease p s).2.sctl = s.sctl ∧
    (serveRelease p s).2.host = s.host ∧
    (serveRelease p s).2.link = s.link ∧
    (serveRelease p s).2.calls = s.calls ∧
    (serveRelease p s).2.intake = s.intake ∧
    (serveRelease p s).2.board = s.board ∧
    (serveRelease p s).2.hold = s.hold ∧
    (serveRelease p s).2.doze = s.doze := by
  unfold serveRelease; repeat' split
  all_goals simp

@[simp] theorem serveUnicast_frame (h : IdHit) (p : Parcel) :
    (serveUnicast h p s).2.pending = s.pending ∧
    (serveUnicast h p s).2.inReset = s.inReset ∧
    (serveUnicast h p s).2.cfg = s.cfg ∧
    (serveUnicast h p s).2.sctl = s.sctl ∧
    (serveUnicast h p s).2.host = s.host ∧
    (serveUnicast h p s).2.link = s.link ∧
    (serveUnicast h p s).2.calls = s.calls ∧
    (serveUnicast h p s).2.doze = s.doze := by
  unfold serveUnicast; repeat' split
  all_goals simp

@[simp] theorem intakeFromClaim_frame (h : IdHit) (p : Parcel) :
    (intakeFromClaim h p s).2.pending = s.pending ∧
    (intakeFromClaim h p s).2.inReset = s.inReset ∧
    (intakeFromClaim h p s).2.cfg = s.cfg ∧
    (intakeFromClaim h p s).2.sctl = s.sctl ∧
    (intakeFromClaim h p s).2.host = s.host ∧
    (intakeFromClaim h p s).2.link = s.link ∧
    (intakeFromClaim h p s).2.calls = s.calls ∧
    (intakeFromClaim h p s).2.doze = s.doze := by
  unfold intakeFromClaim; repeat' split
  all_goals simp

@[simp] theorem intakeRouse_frame (h : IdHit) (p : Parcel) :
    (intakeRouse h p s).2.pending = s.pending ∧
    (intakeRouse h p s).2.inReset = s.inReset ∧
    (intakeRouse h p s).2.cfg = s.cfg ∧
    (intakeRouse h p s).2.sctl = s.sctl ∧
    (intakeRouse h p s).2.host = s.host ∧
    (intakeRouse h p s).2.link = s.link ∧
    (intakeRouse h p s).2.calls = s.calls ∧
    (intakeRouse h p s).2.board = s.board ∧
    (intakeRouse h p s).2.hold = s.hold := by
  unfold intakeRouse; repeat' split
  all_goals simp

@[simp] theorem intakeDozing_frame (h : IdHit) (p : Parcel) :
    (intakeDozing h p s).2.pending = s.pending ∧
    (intakeDozing h p s).2.inReset = s.inReset ∧
    (intakeDozing h p s).2.cfg = s.cfg ∧
    (intakeDozing h p s).2.sctl = s.sctl ∧
    (intakeDozing h p s).2.host = s.host ∧
    (intakeDozing h p s).2.link = s.link ∧
    (intakeDozing h p s).2.calls = s.calls := by
  unfold intakeDozing; repeat' split
  all_goals simp

@[simp] theorem intake_frame (p : Parcel) :
    (intake p s).2.pending = s.pending ∧
    (intake p s).2.inReset = s.inReset ∧
    (intake p s).2.cfg = s.cfg ∧
    (intake p s).2.sctl = s.sctl ∧
    (intake p s).2.host = s.host ∧
    (intake p s).2.link = s.link ∧
    (intake p s).2.calls = s.calls := by
  unfold intake; repeat' split
  all_goals simp

@[simp] theorem dispose_frame (w : Bool) (r : RxResult) :
    (dispose w r s).2.pending = s.pending ∧
    (dispose w r s).2.inReset = s.inReset ∧
    (dispose w r s).2.cfg = s.cfg ∧
    (dispose w r s).2.sctl = s.sctl ∧
    (dispose w r s).2.host = s.host ∧
    (dispose w r s).2.link = s.link ∧
    (dispose w r s).2.calls = s.calls := by
  unfold dispose; repeat' split
  all_goals simp

end Sys2Proof.Machine
end

