-- ==== Sys2Proof/Laws/Exec.lean ====
section
/-! SUPPORT. What `exec` is for each row: the effect of the command or event, wrapped as its kind of event. The provers
cite these instead of unfolding the dispatch. -/

namespace Sys2Proof.Machine

open Sys2Proof.Safety

variable (s : State)

/-! ## The expiries of an edge (R132) -/

/-- The row of the table that is this expiry. -/
def Expiry.row : Expiry → Instr
  | .hold c => .incomingHoldExpiry c
  | .backoff c => .backoffExpiry c
  | .refresh => .refreshTimerExpiry
  | .lease => .leaseExpiry
  | .mirror k => .mirrorExpiry k
  | .stuck => .stuckTimerExpiry
  | .dozeIdle => .dozeIdleExpiry

theorem exec_expiry (e : Expiry) : exec e.row s = .next (timerEvent e.effect s) := by cases e <;> rfl

theorem rowDue_expiry (e : Expiry) : rowDue s e.row = e.due s := by
  cases e <;> first
    | rfl
    | (simp only [Expiry.row, rowDue, Expiry.due, State.stuckCanExpire]
       cases s.link.line.stuck <;> simp [isDue, Bool.and_assoc])

theorem expireRow_expiry (e : Expiry) : expireRow s e.row = expire s e := by
  simp only [expireRow, expire, rowDue_expiry, exec_expiry]

/-- The line event of an edge is over, as the statements say it. -/
theorem dropAnswer_eq : dropAnswer s = lineOver s := by
  unfold dropAnswer lineOver
  cases s.link.line.low <;> rfl

/-- What is due on an edge takes place row by row, as the statements say it. -/
theorem expireDue_eq : expireDue s = hostEdge s := by
  have rows : expiryRows = expiries.map Expiry.row := by decide
  have one : expire = fun t e => expireRow t (Expiry.row e) := by
    funext t e; exact (expireRow_expiry t e).symm
  rw [expireDue, hostEdge, rows, List.foldl_map, one, dropAnswer_eq]

theorem openEdge_eq : openEdge s = lineEdge s := by
  simp only [openEdge, lineEdge, expireDue_eq]; rfl

/-- Something is due exactly when a row is. -/
theorem anyDue_eq : s.anyDue = !(dueRows s).isEmpty := by
  have rows : expiryRows = expiries.map Expiry.row := by decide
  have key : ∀ l : List Expiry, l.any (Expiry.due s) = !((l.map Expiry.row).filter (rowDue s)).isEmpty := by
    intro l
    induction l with
    | nil => rfl
    | cons e l ih =>
      rw [List.any_cons, List.map_cons, List.filter_cons, rowDue_expiry, ih]
      cases e.due s <;> simp
  rw [State.anyDue, dueRows, rows, key]

/-- An answer given up changes nothing of what is due. -/
theorem rowDue_lineOver (c : Instr) : rowDue (lineOver s) c = rowDue s c := by
  rw [← dropAnswer_eq]
  cases c <;> simp only [rowDue, dropAnswer_frame, State.mirrorOf, State.sessEntry, State.entryAt,
    State.positionFromBottom]
  unfold dropAnswer
  split
  · rename_i a h; split <;> simp [h]
  · rfl

/-- Where nothing is due a host access finds the state with the line event of the edge over. -/
theorem hostEdge_of_none (h : dueRows s = []) : hostEdge s = lineOver s := by
  have key : ∀ l : List Instr, (∀ c ∈ l, rowDue s c = false) → l.foldl expireRow (lineOver s) = lineOver s := by
    intro l
    induction l with
    | nil => intro _; rfl
    | cons c l ih =>
      intro g
      have e : expireRow (lineOver s) c = lineOver s := by
        simp [expireRow, rowDue_lineOver, g c List.mem_cons_self]
      rw [List.foldl_cons, e, ih fun d m => g d (List.mem_cons_of_mem _ m)]
  refine key _ fun c m => ?_
  by_contra g
  have : c ∈ dueRows s := List.mem_filter.mpr ⟨m, by simpa using g⟩
  simp [h] at this

theorem lineOver_of_high (l : s.link.line.low = none) : lineOver s = s := by
  unfold lineOver; split <;> simp [l]

/-- Where nothing is due and SLINE is high a host access finds the state as it is. -/
theorem hostEdge_of_high (h : dueRows s = []) (l : s.link.line.low = none) : hostEdge s = s := by
  rw [hostEdge_of_none s h, lineOver_of_high s l]

/-- What a step does with nothing waiting (log 2). -/
theorem tick_of_due (h : s.inReset = false) (d : dueRows s ≠ []) : tick s = hostEdge s := by
  simp [tick, h, anyDue_eq, d, expireDue_eq]
theorem tick_of_none (h : s.inReset = false) (d : dueRows s = []) : tick s = nextEdge s := by
  simp [tick, h, anyDue_eq, d]

/-! ## Events while RESET# is high (R158) -/

theorem lineEvent_high (h : s.inReset = false) (f : State → State) : lineEvent f s = endEvent (f (lineEdge s)) := by
  simp [lineEvent, unlessReset, h, openEdge_eq]
theorem timerEvent_high (h : s.inReset = false) (f : State → State) : timerEvent f s = endEvent (f (timerEdge s)) := by
  simp [timerEvent, unlessReset, h, dropAnswer_eq]; rfl
theorem hostEvent_high (h : s.inReset = false) (f : State → State) : hostEvent f s = afterHost (f (hostEdge s)) := by
  simp [hostEvent, unlessReset, h, afterHost, expireDue_eq]

/-- A row that is a line event, a host access or an expiry, by its effect. -/
theorem line_next (h : s.inReset = false) {c : Instr} {f : State → State} {t : State}
    (e : exec c s = done (lineEvent f s)) (g : f (lineEdge s) = t) : exec c s = .next (endEvent t) := by
  rw [e, lineEvent_high s h, g]; rfl
theorem host_next (h : s.inReset = false) {c : Instr} {f : State → State} {t : State}
    (e : exec c s = done (hostEvent f s)) (g : f (hostEdge s) = t) : exec c s = .next (afterHost t) := by
  rw [e, hostEvent_high s h, g]; rfl
theorem timer_next (h : s.inReset = false) {c : Instr} {f : State → State} {t : State}
    (e : exec c s = done (timerEvent f s)) (g : f (timerEdge s) = t) : exec c s = .next (endEvent t) := by
  rw [e, timerEvent_high s h, g]; rfl

/-! ## Rows -/

variable (h : s.inReset = false)
include h

theorem exec_submit (e : Edge) : exec (.submit e) s = .next (afterHost (finishCommand 0x01 (cmdSubmit e (hostEdge s)))) :=
  host_next s h rfl rfl
theorem exec_cancel (a : BitVec 24) : exec (.cancel a) s =
    .next (afterHost (finishCommand 0x02 (cmdCancel a (hostEdge s)))) := host_next s h rfl rfl
theorem exec_retire (a : BitVec 24) : exec (.retire a) s =
    .next (afterHost (finishCommand 0x03 (cmdRetire a (hostEdge s)))) := host_next s h rfl rfl
theorem exec_cqPop : exec .cqPop s = .next (afterHost (finishCommand 0x04 (cmdCqPop (hostEdge s)))) :=
  host_next s h rfl rfl
theorem exec_flushClass (a : BitVec 24) : exec (.flushClass a) s =
    .next (afterHost (finishCommand 0x05 (cmdFlushClass a (hostEdge s)))) := host_next s h rfl rfl
theorem exec_tagReset (a : BitVec 24) : exec (.tagReset a) s =
    .next (afterHost (finishCommand 0x06 (cmdTagReset a (hostEdge s)))) := host_next s h rfl rfl
theorem exec_inboxPop (a : BitVec 24) : exec (.inboxPop a) s =
    .next (afterHost (finishCommand 0x08 (cmdInboxPop a (hostEdge s)))) := host_next s h rfl rfl
theorem exec_inboxFlush (a : BitVec 24) : exec (.inboxFlush a) s =
    .next (afterHost (finishCommand 0x09 (cmdInboxFlush a (hostEdge s)))) := host_next s h rfl rfl
theorem exec_tableRead (a : BitVec 24) : exec (.tableRead a) s =
    .next (afterHost (finishCommand 0x0C (cmdTableRead a (hostEdge s)))) := host_next s h rfl rfl
theorem exec_tableWrite (a : BitVec 24) : exec (.tableWrite a) s =
    .next (afterHost (finishCommand 0x0D (cmdTableWrite a (hostEdge s)))) := host_next s h rfl rfl
theorem exec_publish (a : BitVec 24) : exec (.publish a) s =
    .next (afterHost (finishCommand 0x10 (cmdPublish a (hostEdge s)))) := host_next s h rfl rfl
theorem exec_publishForce (a : BitVec 24) : exec (.publishForce a) s =
    .next (afterHost (finishCommand 0x11 (cmdPublishForce a (hostEdge s)))) := host_next s h rfl rfl
theorem exec_withdraw (a : BitVec 24) : exec (.withdraw a) s =
    .next (afterHost (finishCommand 0x12 (cmdWithdraw a (hostEdge s)))) := host_next s h rfl rfl
theorem exec_absorb (a : BitVec 24) : exec (.absorb a) s =
    .next (afterHost (finishCommand 0x13 (cmdAbsorb a (hostEdge s)))) := host_next s h rfl rfl
theorem exec_holdSend (a : BitVec 24) : exec (.holdSend a) s =
    .next (afterHost (finishCommand 0x18 (cmdHoldSend a (hostEdge s)))) := host_next s h rfl rfl
theorem exec_sessionDrop : exec .sessionDrop s = .next (afterHost (finishCommand 0x1C (cmdSessionDrop (hostEdge s)))) :=
  host_next s h rfl rfl
theorem exec_breakClaim : exec .breakClaim s = .next (afterHost (finishCommand 0x1D (cmdBreakClaim (hostEdge s)))) :=
  host_next s h rfl rfl
theorem exec_doze : exec .doze s = .next (afterHost (finishCommand 0x20 (cmdDoze (hostEdge s)))) := host_next s h rfl rfl
theorem exec_wake (e : Edge) : exec (.wake e) s = .next (afterHost (finishCommand 0x21 (cmdWake e (hostEdge s)))) :=
  host_next s h rfl rfl
theorem exec_linkRestart : exec .linkRestart s = .next (afterHost (finishCommand 0x24 (cmdLinkRestart (hostEdge s)))) :=
  host_next s h rfl rfl
theorem exec_quarantineClear : exec .quarantineClear s =
    .next (afterHost (finishCommand 0x25 (cmdQuarantineClear (hostEdge s)))) := host_next s h rfl rfl
theorem exec_countersClear : exec .countersClear s =
    .next (afterHost (finishCommand 0x28 (cmdCountersClear (hostEdge s)))) := host_next s h rfl rfl
theorem exec_badCode (c : BitVec 8) : exec (.badCode c) s =
    .next (afterHost (finishCommand c (runCommand c 0 (hostEdge s)))) := host_next s h rfl rfl

theorem exec_softReset : exec .softReset s = .next (afterHost (softReset (hostEdge s))) := host_next s h rfl rfl
theorem exec_linkEnable (f : SctlFields) : exec (.linkEnable f) s =
    .next (afterHost (enableLink (writeFields f (hostEdge s)))) := host_next s h rfl rfl
theorem exec_linkDisable (f : SctlFields) : exec (.linkDisable f) s =
    .next (afterHost (disableLink (writeFields f (hostEdge s)))) := host_next s h rfl rfl
theorem exec_evstReadClear : exec .evstReadClear s = .next (afterHost (evstRead (hostEdge s))) := by
  have e : exec .evstReadClear s = writeEvent evstRead s := by simp [exec, execEvstReadClear, h]
  exact host_next s h e rfl
theorem exec_boardWrite (n : Fin 64) (w : Word) : exec (.boardWrite n w) s =
    .next (afterHost (writeBoard n w (hostEdge s))) := host_next s h rfl rfl
theorem exec_identWrite (w : Word) : exec (.identWrite w) s = .next (afterHost (writeIdent w (hostEdge s))) :=
  host_next s h rfl rfl
theorem exec_linkcfgWrite (w : Word) : exec (.linkcfgWrite w) s = .next (afterHost (writeLinkcfg w (hostEdge s))) :=
  host_next s h rfl rfl
theorem exec_tickdivWrite (w : Word) : exec (.tickdivWrite w) s = .next (afterHost (writeTickdiv w (hostEdge s))) :=
  host_next s h rfl rfl
theorem exec_quotaWrite (w : Word) : exec (.quotaWrite w) s = .next (afterHost (writeQuota w (hostEdge s))) :=
  host_next s h rfl rfl
theorem exec_routecfgWrite (w : Word) : exec (.routecfgWrite w) s = .next (afterHost (writeRoutecfg w (hostEdge s))) :=
  host_next s h rfl rfl
theorem exec_hmarkWrite (n : Fin 4) (w : Word) : exec (.hmarkWrite n w) s =
    .next (afterHost (writeHmark n w (hostEdge s))) := host_next s h rfl rfl
theorem exec_holdcfgWrite (r : HoldReg) (w : Word) : exec (.holdcfgWrite r w) s =
    .next (afterHost (writeHoldcfg r w (hostEdge s))) := host_next s h rfl rfl
theorem exec_dozecfgWrite (w : Word) : exec (.dozecfgWrite w) s = .next (afterHost (writeDozecfg w (hostEdge s))) :=
  host_next s h rfl rfl
theorem exec_registerWrite (o : BitVec 10) (w : Word) : exec (.registerWrite o w) s =
    .next (afterHost (writeOffset o w (hostEdge s))) := host_next s h rfl rfl
theorem exec_evstWrite (w : Word) (e : Edge) : exec (.evstWrite w e) s =
    .next (afterHost (evstClear w (match e with | .own => 0 | .shared => (hostEdge s).events.edgeRaised) (hostEdge s))) :=
  host_next s h rfl rfl
theorem exec_leadMark : exec .leadMark s = .next (endEvent (onLeadMark (lineEdge s))) :=
  line_next s h rfl rfl
theorem exec_parcelReceived (l : List LineItem) : exec (.parcelReceived l) s =
    .next (endEvent (onParcel l (lineEdge s))) := line_next s h rfl rfl
theorem exec_contentionWon : exec .contentionWon s = .next (endEvent (onContentionWon (lineEdge s))) :=
  line_next s h rfl rfl
theorem exec_arbitrationLoss : exec .arbitrationLoss s = .next (endEvent (onArbitrationLoss (lineEdge s))) :=
  line_next s h rfl rfl
theorem exec_bitClash (b : Nat) : exec (.bitClash b) s = .next (endEvent (onBitClash b (lineEdge s))) :=
  line_next s h rfl rfl
theorem exec_markFault : exec .markFault s = .next (endEvent (onMarkFault (lineEdge s))) :=
  line_next s h rfl rfl
theorem exec_sentCleanly : exec .sentCleanly s = .next (endEvent (onSentCleanly (lineEdge s))) :=
  line_next s h rfl rfl
theorem exec_answerSent : exec .answerSent s = .next (endEvent (onAnswerSent (lineEdge s))) :=
  line_next s h rfl rfl
theorem exec_answerStart : exec .answerStart s = .next (endEvent (onAnswerStart (lineEdge s))) :=
  line_next s h rfl rfl
theorem exec_answerWindowExpiry : exec .answerWindowExpiry s = .next (endEvent (onWindowExpiry (lineEdge s))) :=
  line_next s h rfl rfl
theorem exec_quietGapEnd : exec .quietGapEnd s = .next (endEvent (onQuietGapEnd (lineEdge s))) :=
  line_next s h rfl rfl
theorem exec_lineHigh : exec .lineHigh s = .next (endEvent (onLineHigh (lineEdge s))) :=
  line_next s h rfl rfl
theorem exec_strayPulse (b : Bool) : exec (.strayPulse b) s = .next (endEvent (onStrayPulse b (lineEdge s))) :=
  line_next s h rfl rfl

theorem exec_stuckTimerExpiry : exec .stuckTimerExpiry s = .next (endEvent (onStuckExpiry (timerEdge s))) :=
  timer_next s h rfl rfl
theorem exec_incomingHoldExpiry (c : Fin 4) : exec (.incomingHoldExpiry c) s =
    .next (endEvent (onHoldExpiry c (timerEdge s))) := timer_next s h rfl rfl
theorem exec_backoffExpiry (c : Fin 4) : exec (.backoffExpiry c) s = .next (endEvent (onBackoffExpiry c (timerEdge s))) :=
  timer_next s h rfl rfl
theorem exec_refreshTimerExpiry : exec .refreshTimerExpiry s = .next (endEvent (onRefreshExpiry (timerEdge s))) :=
  timer_next s h rfl rfl
theorem exec_leaseExpiry : exec .leaseExpiry s = .next (endEvent (onLeaseExpiry (timerEdge s))) := timer_next s h rfl rfl
theorem exec_mirrorExpiry (k : Nat) : exec (.mirrorExpiry k) s = .next (endEvent (onMirrorExpiry k (timerEdge s))) :=
  timer_next s h rfl rfl
theorem exec_dozeIdleExpiry : exec .dozeIdleExpiry s = .next (endEvent (onDozeIdleExpiry (timerEdge s))) :=
  timer_next s h rfl rfl
theorem exec_dozeEntered : exec .dozeEntered s = .next (endEvent (enterDoze (timerEdge s))) := timer_next s h rfl rfl

omit h

theorem exec_reset : exec .reset s = .next (if s.inReset then hardReset false s else hardReset true s) := rfl
theorem exec_powerOn : exec .powerOn s = .next (hardReset true s) := rfl

/-! ## While RESET# is low (R158) -/

theorem lineEvent_low (g : s.inReset = true) (f : State → State) : lineEvent f s = s := by
  simp [lineEvent, unlessReset, g]
theorem timerEvent_low (g : s.inReset = true) (f : State → State) : timerEvent f s = s := by
  simp [timerEvent, unlessReset, g]
theorem hostEvent_low (g : s.inReset = true) (f : State → State) : hostEvent f s = s := by
  simp [hostEvent, unlessReset, g]

end Sys2Proof.Machine
end

