-- ==== Sys2Proof/Laws/Ops.lean ====
section
/-! SUPPORT. What the shared operations do, said once for each: the provers cite these instead of unfolding them. -/

namespace Sys2Proof.Machine

open Sys2Proof.Safety

variable (s : State)

/-! ## Events and counters -/

@[simp] theorem raiseIf_true (e : Event) : raiseIf true e s = raise e s := rfl
@[simp] theorem raiseIf_false (e : Event) : raiseIf false e s = s := rfl

/-- A counter gains 1 up to 65535; COUNTER_HALF is raised from 32767 on (R156). -/
theorem count_spec (c : Counter) :
    (count c s).events.counters =
      s.events.counters.set c.index
        (if s.events.counters[c.index] = 65535#16 then 65535#16 else s.events.counters[c.index] + 1) ∧
    (count c s).events.sticky =
      (if s.events.counters[c.index] = 32767#16 then s.events.sticky ||| Event.counterHalf.mask
       else s.events.sticky) ∧
    (count c s).events.intLow = s.events.intLow ∧ (count c s).events.edgeWoken = s.events.edgeWoken := by
  unfold count
  by_cases h : s.events.counters[c.index] = 32767#16 <;> by_cases g : s.events.counters[c.index] = 65535#16 <;>
    simp_all [raise]

/-! ## Commands -/

theorem finishCommand_ok (code : BitVec 8) (v : BitVec 16) (t : State) :
    finishCommand code (.ok, v, t) = commandOk code v t := rfl
theorem finishCommand_okWith (code : BitVec 8) (v : Nat) (t : State) :
    finishCommand code (okWith v t) = commandOk code (BitVec.ofNat 16 v) t := rfl
theorem finishCommand_refused (code : BitVec 8) (r : CmdResult) (v : BitVec 16) (t : State) (h : r ≠ .ok) :
    finishCommand code (r, v, t) = commandRefused code r v t := by
  simp [finishCommand, commandRefused, h]
theorem finishCommand_refuse (code : BitVec 8) (r : CmdResult) (t : State) (h : r ≠ .ok) :
    finishCommand code (refuse r t) = commandRefused code r 0 t := finishCommand_refused code r 0 t h

theorem argSlot_of_lt (a : BitVec 24) (n : SlotId) (h : n.val = (a.extractLsb' 0 8).toNat) : argSlot a = some n := by
  simp only [argSlot, argLow, ← h, n.isLt, dif_pos]
theorem argSlot_of_ge (a : BitVec 24) (h : 24 ≤ (a.extractLsb' 0 8).toNat) : argSlot a = none :=
  dif_neg (Nat.not_lt.mpr h)
theorem argFour_of_lt (a : BitVec 24) (n : Fin 4) (h : n.val = (a.extractLsb' 0 8).toNat) : argFour a = some n := by
  simp only [argFour, argLow, ← h, n.isLt, dif_pos]
theorem argFour_of_ge (a : BitVec 24) (h : 4 ≤ (a.extractLsb' 0 8).toNat) : argFour a = none :=
  dif_neg (Nat.not_lt.mpr h)
theorem argRange_spec (a : BitVec 24) :
    argRange a =
      if (a.extractLsb' 8 8).toNat = 0 ∨ 64 < (a.extractLsb' 0 8).toNat + (a.extractLsb' 8 8).toNat then none
      else some ((a.extractLsb' 0 8).toNat, (a.extractLsb' 8 8).toNat) := rfl

/-! ## The board -/

@[simp] theorem mapRange_getElem (first n : Nat) (f : BoardEntry → BoardEntry) (b : Board) (i : Nat) (h : i < 64) :
    (mapRange first n f b)[i] = if first ≤ i ∧ i < first + n then f b[i] else b[i] := by
  simp [mapRange, inRange]

/-! ## Class sets -/

/-- A class is wanted exactly when an inbox in HOLDING names it (R122). -/
theorem wantedClasses_getLsbD (c : Nat) :
    s.wantedClasses.getLsbD c = true ↔
      ∃ n : Fin 4, s.hold.holding[n] = true ∧ s.cfg.hmark[n].classes.getLsbD c = true := by
  have key : ∀ (l : List (Fin 4)) (m : BitVec 4),
      (l.foldl (fun m n => if s.hold.holding[n] then m ||| s.cfg.hmark[n].classes else m) m).getLsbD c = true ↔
        m.getLsbD c = true ∨ ∃ n ∈ l, s.hold.holding[n] = true ∧ s.cfg.hmark[n].classes.getLsbD c = true := by
    intro l
    induction l with
    | nil => simp
    | cons n l ih =>
      intro m
      rw [List.foldl_cons, ih]
      by_cases h : s.hold.holding[n.val] = true <;> simp [h, or_assoc]
  simpa [State.wantedClasses] using key (List.finRange 4) 0

/-! ## Calls -/

theorem decideOutcome_alone (n : SlotId) (o : CallOutcome) (source : BitVec 5)
    (h : s.calls.slots[n].breaks o = false) : decideOutcome n o source s = closeCall n o source s := by
  change closeChain (23 + 1) n o source s = _
  rw [closeChain, h]
  rfl

/-- Step 2 of R60 changes the tag table alone. -/
theorem closeTag_calls (x : Slot) : (closeTag x s).calls = { s.calls with tags := (closeTag x s).calls.tags } := by
  unfold closeTag advanceTag; repeat' split
  all_goals rfl

/-- A push changes the stack alone of the Session Unit. -/
theorem pushSession_sess (node identity : BitVec 5) (lease : BitVec 8) :
    (pushSession node identity lease s).sess =
      { s.sess with stack := (pushSession node identity lease s).sess.stack } := by
  unfold pushSession
  simp only [raiseIf_frame]
  rfl

/-- Step 3 of R60 changes the Session Stack and the session gate alone, and opens the gate that the call held. -/
theorem closeSession_sess (n : SlotId) (x : Slot) (o : CallOutcome) (source : BitVec 5) :
    (closeSession n x o source s).sess = { s.sess with
      stack := (closeSession n x o source s).sess.stack
      gate := if s.sess.gate = some n then none else s.sess.gate } := by
  have gate : ∀ u : State, u.sess = { s.sess with stack := u.sess.stack } →
      (if u.sess.gate = some n then { u with sess := { u.sess with gate := none } } else u).sess =
        { s.sess with
          stack := (if u.sess.gate = some n then { u with sess := { u.sess with gate := none } } else u).sess.stack
          gate := if s.sess.gate = some n then none else s.sess.gate } := by
    intro u h
    have g : u.sess.gate = s.sess.gate := by rw [h]
    split
    · rw [if_pos (g ▸ ‹_›), h]
    · rw [if_neg (g ▸ ‹_›), ← g]
      conv_lhs => rw [h]
      rw [g]
  unfold closeSession
  apply gate
  split
  · exact pushSession_sess ..
  · split <;> rfl

/-- What the five steps of R60 leave in the Call Engine and the Session Unit. -/
theorem closeCall_spec (n : SlotId) (o : CallOutcome) (source : BitVec 5) :
    let x := s.calls.slots[n]
    let t := closeCall n o source s
    let after := behind n s.calls.queues[x.cls]
    t.calls = { s.calls with
      slots := s.calls.slots.set n { x with state := .done, outcome := some o, cancelPending := false }
      queues := s.calls.queues.set x.cls (s.calls.queues[x.cls].erase n)
      backoff := if x.state = .active then s.calls.backoff.set x.cls none else s.calls.backoff
      tags := t.calls.tags
      cq := s.calls.cq ++ [x.record n o s.calls.seq]
      seq := s.calls.seq + 1
      successor := if x.chain ∧ o.successful ∧ after.isSome then after
        else if s.calls.successor = some n then none else s.calls.successor } ∧
    t.sess = { s.sess with
      stack := t.sess.stack
      gate := if s.sess.gate = some n then none else s.sess.gate } := by
  constructor
  · simp only [closeCall, closePointer, appendRecord, closeSession_frame]
    rw [closeTag_calls]
    rfl
  · simp only [closeCall, closePointer, appendRecord]
    rw [closeSession_sess]
    simp only [closeTag_frame, closeSlot]

/-! ## The pin -/

/-- A timer started at this moment has run for no cycle. -/
theorem Timer.startAged_zero (d us : Nat) : Timer.startAged d us 0 = Timer.start d us := by
  unfold Timer.startAged Timer.start
  rcases Nat.eq_zero_or_pos us with h | h
  · simp [h]
  · have e : us * (d + 1) - 1 = (us - 1) * (d + 1) + d := by
      obtain ⟨k, rfl⟩ : ∃ k, us = k + 1 := ⟨us - 1, by omega⟩
      simp [Nat.add_mul]
    have q : (us * (d + 1) + d) / (d + 1) = us := by
      rw [Nat.mul_comm, Nat.mul_add_div (by omega), Nat.div_eq_of_lt (by omega), Nat.add_zero]
    have m : (us * (d + 1) - 1) % (d + 1) = d := by
      rw [e, Nat.add_comm, Nat.add_mul_mod_self_right, Nat.mod_eq_of_lt (by omega)]
    simp only [Nat.le_zero, Nat.sub_zero, Nat.mul_eq_zero, q, m]
    rw [if_neg (by omega), if_neg (by omega)]

theorem sending_eq : s.sending = ownOnLine s.link.act := by
  unfold State.sending ownOnLine
  split <;> simp_all

/-- The stuck timer that an edge of this moment starts. -/
theorem stuckTimer_zero : s.stuckTimer 0 = Timer.start s.div (s.cfg.linkcfg.stuckLimit.toNat * 100) :=
  Timer.startAged_zero ..

/-- What a row that tells of a high line leaves of the pin, as the statements say it. -/
theorem rowHigh_eq : rowHigh s = lineUp s := by
  simp only [rowHigh, State.fellNow, lineUp, sending_eq, Bool.and_eq_true, Bool.or_eq_true]
  rfl

theorem leadBegins_eq (h : s.link.act ≠ .off) (g : s.link.act ≠ .stuck) : leadBegins s = ownLead s := by
  cases e : s.link.line.low
  · simp only [leadBegins, startLow, ownLead, setLine_link, e, Option.isSome_none, Bool.false_eq_true, if_false, h, g,
      or_self, stuckTimer_zero]
    rfl
  · simp [leadBegins, startLow, ownLead, e]
    rfl

theorem markSeen_eq (h : s.link.act ≠ .off) (g : s.link.act ≠ .stuck) : markSeen s = markLow s := by
  cases e : s.link.line.low <;> simp [markSeen, startLow, markLow, e, h, g] <;> rfl

/-- The release of SLINE changes the pin alone. -/
theorem releaseLine_eq : releaseLine s = setLine { lineReleased s with
    stuck := if (ownOnLine s.link.act).isSome && !s.link.line.pulled then none else s.link.line.stuck } s := by
  unfold releaseLine lineReleased
  rw [sending_eq]
  split
  · rename_i h
    have p : s.link.line.pulled = false := by simpa using (Bool.and_eq_true_iff.mp h).2
    simp [lineRises, p]
  · rfl

/-! ## The Call Engine does not look at the pin -/

theorem raise_setLine (e : Event) (l : Line) : raise e (setLine l s) = setLine l (raise e s) := rfl
theorem raiseIf_setLine (b : Bool) (e : Event) (l : Line) : raiseIf b e (setLine l s) = setLine l (raiseIf b e s) := by
  cases b <;> rfl
theorem pushSession_setLine (a b : BitVec 5) (c : BitVec 8) (l : Line) :
    pushSession a b c (setLine l s) = setLine l (pushSession a b c s) := by
  simp only [pushSession]
  rw [← raiseIf_setLine]
  rfl
theorem closeTag_setLine (x : Slot) (l : Line) : closeTag x (setLine l s) = setLine l (closeTag x s) := by
  unfold closeTag advanceTag; split <;> (try split) <;> rfl
theorem closeSession_setLine (n : SlotId) (x : Slot) (o : CallOutcome) (b : BitVec 5) (l : Line) :
    closeSession n x o b (setLine l s) = setLine l (closeSession n x o b s) := by
  unfold closeSession
  dsimp only
  rw [pushSession_setLine]
  split
  · split <;> rename_i h <;> first | rw [if_pos (by exact h)] | rw [if_neg (by exact h)]
    all_goals rfl
  · split <;> split <;> rename_i h <;> first | rw [if_pos (by exact h)] | rw [if_neg (by exact h)]
    all_goals rfl
theorem closeCall_setLine (n : SlotId) (o : CallOutcome) (b : BitVec 5) (l : Line) :
    closeCall n o b (setLine l s) = setLine l (closeCall n o b s) := by
  have h : closeSlot n o (setLine l s) = setLine l (closeSlot n o s) := rfl
  unfold closeCall
  dsimp only
  rw [h, closeTag_setLine]
  erw [closeSession_setLine]
  rfl
theorem closeChain_setLine (k : Nat) (n : SlotId) (o : CallOutcome) (b : BitVec 5) (l : Line) :
    closeChain k n o b (setLine l s) = setLine l (closeChain k n o b s) := by
  induction k generalizing n o b s with
  | zero => rfl
  | succ k ih =>
    simp only [closeChain, closeCall_setLine, setLine_frame, ih]
    split
    · cases behind n s.calls.queues[s.calls.slots[n].cls] <;> rfl
    · rfl
theorem decideOutcome_setLine (n : SlotId) (o : CallOutcome) (b : BitVec 5) (l : Line) :
    decideOutcome n o b (setLine l s) = setLine l (decideOutcome n o b s) := closeChain_setLine ..
theorem callAbandoned_setLine (l : Line) : callAbandoned (setLine l s) = setLine l (callAbandoned s) := by
  unfold callAbandoned
  simp only [setLine_frame]
  split
  · rfl
  · rename_i n h
    have e : endCurrent (setLine l s) = setLine l (endCurrent s) := rfl
    simp only [e, decideOutcome_setLine]
    split <;> rfl
theorem callWithdrawn_setLine (l : Line) : callWithdrawn (setLine l s) = setLine l (callWithdrawn s) := by
  unfold callWithdrawn
  simp only [setLine_frame]
  split
  · rfl
  · rename_i n h
    have e : ∀ f, endCurrent (updSlot n f (setLine l s)) = setLine l (endCurrent (updSlot n f s)) := fun _ => rfl
    simp only [e, decideOutcome_setLine]
    split <;> rfl
/-- Abandonment neither reads nor changes the pin (R22). -/
theorem abandon_setLine (l : Line) : abandon (setLine l s) = setLine l (abandon s) := by
  unfold abandon
  simp only [setLine_link]
  split
  · rename_i o _ _; cases o
    · exact callAbandoned_setLine ..
    · rfl
  · rename_i o _ _; cases o
    · exact callWithdrawn_setLine ..
    · rfl
  · exact callWithdrawn_setLine ..
  · exact callWithdrawn_setLine ..
  · rfl

/-! ## The end of an event -/

theorem select_idle (h : s.link.act ≠ .idle ∨ s.link.bus ≠ .free ∨ s.doze.state = .dozing) : select s = s := by
  unfold select
  rw [if_neg (by tauto)]

theorem endEvent_intLow : (endEvent s).events.intLow = (endEvent s).interrupt := rfl

theorem afterHost_intLow : (afterHost s).events.intLow = (afterHost s).interrupt := rfl

end Sys2Proof.Machine
end

