-- ==== Sys2Proof/Tests/Slice0.lean ====
section
/-! SUPPORT. Tests on small concrete states, their values taken from the manual's tables and worked examples, and for
every statement that has hypotheses a named theorem that shows them met, clause by clause. -/

namespace Sys2Proof.Tests

open Sys2Proof.Machine Sys2Proof.Safety

-- One test at a time: each `decide` is a kernel evaluation, and all at once they ask for a thread and a stack each.
set_option Elab.async false

/-! ## States and parcels for the tests -/

/-- Identity 7 with alias 19, awake, the link IDLE with the quiet gap running. -/
def base : State :=
  { State.reset with
    cfg := { State.reset.cfg with ident := { primary := 7, aliasId := 19 } }
    sctl := { intakeEn := true, irqEn := true, rdclr := false }
    link := { act := .idle, bus := .busy } }

/-- `base` in another activity. -/
def inAct (a : Activity) : State := { base with link := { base.link with act := a } }

/-- `base` with one slot changed and one class queue. -/
def withSlot (n : SlotId) (x : Slot) (c : Fin 4) (q : List SlotId) (s : State) : State :=
  { s with calls := { s.calls with slots := s.calls.slots.set n x, queues := s.calls.queues.set c q } }

/-- A queued PUT of class 1 to node 4. -/
def put : Slot := { state := .queued, kind := 0, cls := 1, dest := 4 }

/-- The parcel of `put`, with tag 3. -/
def own : Parcel := ⟨1, 4, 0, 7, 3, [0xAB]⟩

/-- The ACK that node 4 gives to `own`. -/
def ack : Parcel := ⟨1, 7, 8, 4, 3, []⟩

/-- A message of node 5 to this controller. -/
def message : Parcel := ⟨2, 7, 0, 5, 1, [0x11, 0x22]⟩

/-- The call of `put` is ACTIVE and current, with this activity. -/
def calling (a : Activity) : State :=
  let s := withSlot 0 { put with state := .active, attempts := 1, tag := some 3 } 1 [0] (inAct a)
  { s with calls := { s.calls with current := some 0 } }

/-- What the state after an outcome shows, by a test of it. -/
def after (o : Host.Outcome State Fault Refusal) (p : State → Bool) : Bool :=
  match o with
  | .next t => p t
  | _ => false

/-! ## WellFormed: each check refuses an ill-formed command -/

theorem test_badCode_of_a_defined_code_is_ill_formed : (Instr.badCode 0x28).wellFormed = false := by decide
theorem test_badCode_of_an_undefined_code_is_well_formed : (Instr.badCode 0x07).wellFormed = true := by decide
theorem test_registerWrite_of_ident_is_ill_formed : (Instr.registerWrite 0x008 0).wellFormed = false := by decide
theorem test_registerWrite_of_even_is_well_formed : (Instr.registerWrite 0x020 0).wellFormed = true := by decide
theorem test_mirrorExpiry_beyond_the_stack_is_ill_formed :
    (Instr.mirrorExpiry 0).wellFormed = false ∧ (Instr.mirrorExpiry 7).wellFormed = false := by decide

/-! ## Decode: words of the Host Port -/

/-- The table gives no row any bits, so no word spells a command by it. -/
theorem test_no_table_word : decodeTableWord 32 0x01000000 = none := rfl
/-- CMDW carries the code in bits 31:24 and the argument in bits 23:0 (R165). -/
theorem test_decode_cancel_slot_3 : decodeWrite 0x014 0x02000003 = .cancel 3 := by decide
theorem test_decode_publish_16_count_4 : decodeWrite 0x014 0x10000410 = .publish 0x000410 := by decide
/-- SCTL: LINK_EN bit 0, INTAKE_EN bit 1, IRQ_EN bit 4, SOFT_RESET bit 31 (R167). -/
theorem test_decode_sctl : decodeWrite 0x000 0x00000013 = .linkEnable ⟨true, true, false⟩ ∧
    decodeWrite 0x000 0x80000001 = .softReset := by decide
theorem test_decode_board_16 : decodeWrite 0x240 5 = .boardWrite 16 5 := by decide

/-! ## Lines and parcels -/

/-- The arbitration keys of the three nodes of section 1.5. -/
theorem test_arbitration_keys :
    (⟨1, 4, 0, 9, 0, []⟩ : Parcel).key = 0x4809 ∧ (⟨1, 4, 1, 12, 0, []⟩ : Parcel).key = 0x482C ∧
      (⟨1, 6, 0, 3, 0, []⟩ : Parcel).key = 0x4C03 := by decide
/-- The check value of this generator and initial value for the digits 1 to 9, a published value (PRESUMED). -/
theorem test_check_value :
    crc (([0x31, 0x32, 0x33, 0x34, 0x35, 0x36, 0x37, 0x38, 0x39] : List Byte).flatMap fieldBits) = 0x29B1 := by
  decide +kernel
/-- Pulse classes at 1 bt of 200 cycles: data up to 1.25 bt, tail up to 1.75 bt, mark from there on (R3, R130). -/
theorem test_pulse_classes : classify 200 99 = .data true ∧ classify 200 100 = .data false ∧
    classify 200 250 = .tail ∧ classify 200 350 = .mark := by decide
theorem test_reception_of_a_message : receive 8 (message.wire 8) = some (.good message) := by decide +kernel
theorem test_malformed_source : receive 8 ((⟨0, 7, 0, 0, 0, []⟩ : Parcel).wire 8) =
    some (.malformed ⟨0, 7, 0, 0, 0, []⟩) := by decide +kernel

/-! ## Reset -/

/-- Values of section 12.5. -/
theorem test_reset_registers : State.reset.readReg .sstat = 0x00001800 ∧ State.reset.readReg .ident = 0x64030000 ∧
    State.reset.readReg .linkcfg = 0x000A3282 ∧ State.reset.readReg .quota = 0x0A0A0A0A ∧
    State.reset.readReg .dozecfg = 0x0000320E := by decide +kernel
/-- RESET# low: reads return 0 and a command has no effect; its rise brings the values of section 12.5 (R158). -/
theorem test_reset_asserted_and_released :
    after (exec .reset base) (fun t => t.inReset && t.readOffset 0x004 == 0 && after (exec .doze t) (· == t) &&
      after (exec .reset t) (fun u => !u.inReset && u.readOffset 0x004 == 0x00001800)) = true := by decide +kernel
/-- IDENT stands at 0x008, and 0x028 names no register (section 12.5, R164). -/
theorem test_reads_by_offset : base.readOffset 0x008 = 0x64031307 ∧ base.readOffset 0x028 = 0 := by decide +kernel
theorem test_softReset_keeps_ident :
    after (exec .softReset base) (fun t => t.cfg.ident.primary = 7 ∧ t.link.act = .off) = true := by decide +kernel

/-! ## Commands -/

/-- A staged PUT to node 4 with one byte goes to slot 0 and to the queue of class 1 (R44, R46). -/
theorem test_submit : after (exec (.submit .own) { base with host := { base.host with stageh := 0x00010410 } })
    (fun t => t.calls.slots[0].dest = 4 ∧ t.calls.queues[1] = [0] ∧ t.host.cmdr.result = .ok) = true := by
  decide +kernel
/-- Kind 5 is HOLD, which SUBMIT refuses by check 1 (R45). -/
theorem test_submit_of_hold_is_refused :
    after (exec (.submit .own) { base with host := { base.host with stageh := 0x00030005 } })
      (fun t => t.host.cmdr = ⟨0x01, .badArgument, 1⟩ ∧ t.events.sticky.getLsbD 23) = true := by decide +kernel
theorem test_cancel_queued : after (exec (.cancel 0) (withSlot 0 put 1 [0] base))
    (fun t => t.calls.slots[0].outcome = some .cancelled ∧ t.calls.cq.length = 1 ∧ t.calls.queues[1] = []) = true := by
  decide +kernel
theorem test_cqPop_empty : after (exec .cqPop base) (fun t => t.host.cmdr.result = .empty) = true := by decide +kernel
/-- The publish conflict of section 6.6: three published and one skipped give the value 0x0103. -/
theorem test_publish_conflict :
    after (exec (.publish 0x000410) { base with board := Vector.ofFn fun i : Fin 64 =>
        if 16 ≤ i.val ∧ i.val < 20 then { staged := 9, isStaged := true, modified := i.val = 18 } else {} })
      (fun t => t.host.cmdr.value = 0x0103 ∧ t.board[16].committed = 9 ∧ t.board[18].committed = 0 ∧
        t.events.sticky.getLsbD 20) = true := by decide +kernel
theorem test_absorb_clears_both_flags :
    after (exec (.absorb 0x00013F) { base with board := base.board.set 63 { isStaged := true, modified := true } })
      (fun t => t.board[63].isStaged = false ∧ t.board[63].modified = false) = true := by decide +kernel
theorem test_holdSend_off : after (exec (.holdSend 0x0F0100) State.reset)
    (fun t => t.host.cmdr.result = .disabled) = true := by decide +kernel
/-- With the bus free the manual request contends at once, mask 3, time 0x0100, from PRIMARY (R124, R127). -/
theorem test_holdSend_contends : after (exec (.holdSend 0x030100) { base with link := { base.link with bus := .free } })
    (fun t => t.link.act = .contending (.hold .manual) ⟨0, 0, 5, 7, 0, [3, 1, 0]⟩) = true := by decide +kernel
theorem test_doze_at_once : after (exec .doze base)
    (fun t => t.host.cmdr.value = 1 ∧ t.doze.state = .dozing ∧ t.events.sticky.getLsbD 21) = true := by decide +kernel
theorem test_linkRestart_returns_quarantine :
    after (exec .linkRestart { base with link := { base.link with quarantine := true, faults := 9 } })
      (fun t => t.host.cmdr.value = 1 ∧ t.link.act = .settling ∧ t.link.faults = 0) = true := by decide +kernel

/-! ## Host writes -/

/-- ALIAS may not equal a PRIMARY other than 0 (R85). -/
theorem test_ident_refused : after (exec (.identWrite 0x0A030707) State.reset)
    (fun t => t.cfg.ident.primary = 0 ∧ t.events.sticky.getLsbD 24) = true := by decide +kernel
/-- The quotas may sum to 40 and no more (R101). -/
theorem test_quota_sum : after (exec (.quotaWrite 0x28000000) State.reset) (fun t => t.cfg.quota[3] = 40) = true ∧
    after (exec (.quotaWrite 0x28000001) State.reset) (fun t => t.cfg.quota[3] = 10) = true := by decide +kernel
theorem test_linkEnable_needs_primary : after (exec (.linkEnable ⟨true, true, false⟩) State.reset)
    (fun t => t.link.act = .off ∧ t.sctl.intakeEn ∧ t.events.sticky.getLsbD 24) = true := by decide +kernel
theorem test_boardWrite_leaves_committed : after (exec (.boardWrite 3 7) base)
    (fun t => t.readReg (.board 3) = 7 ∧ t.board[3].committed = 0) = true := by decide +kernel
theorem test_evstWrite_keeps_same_edge_events :
    after (exec (.evstWrite 0xFFFFFFFF .shared)
      { base with events := { base.events with sticky := 0x600, edgeRaised := 0x200 } })
      (fun t => t.events.sticky = 0x200) = true := by decide +kernel

/-! ## Line events -/

/-- An accepted ACK ends the call ACKED in the window (R33, R34, R53). -/
theorem test_ack_completes :
    after (exec (.parcelReceived (ack.wire 8)) { calling (.listening (some own)) with
        cfg := { base.cfg with tickdiv := 7, linkcfg := { base.cfg.linkcfg with rate := 0 } } })
      (fun t => t.calls.cq.map Completion.outcome = [.acked] ∧ t.link.act = .idle) = true := by decide +kernel
/-- A message to the primary identity is delivered to inbox 0 and answered ACK (R97, R98). -/
theorem test_message_delivered :
    after (exec (.parcelReceived (message.wire 8)) { inAct (.listening none) with
        cfg := { base.cfg with tickdiv := 7, linkcfg := { base.cfg.linkcfg with rate := 0 } } })
      (fun t => t.intake.inboxes[0].map InRecord.payload = [[0x11, 0x22]] ∧
        t.link.act = .answering ⟨2, 5, 8, 7, 1, []⟩ false) = true := by decide +kernel
theorem test_contention_won_takes_tag : after (exec .contentionWon (calling (.contending .call { own with tag := 0 })))
    (fun t => t.link.act = .transmitting .call own ∧ t.calls.slots[0].attempts = 2) = true := by decide +kernel
/-- A call with IDSEL 1 that has been sent before, started again under these identities. -/
def retried (i : Ident) : State := withSlot 0 { put with state := .active, idsel := true } 1 [0]
  { base with cfg := { base.cfg with ident := i }, link := { base.link with bus := .free } }
/-- It carries the alias as IDENT holds it at this selection, and is BAD_IDENTITY where there is none (R51). -/
theorem test_restart_sends_the_present_alias : (retried { primary := 7, aliasId := 20 }).callParcel 0 = ⟨1, 4, 0, 20, 0, []⟩ ∧
    (retried { primary := 7 }).startCheck 0 = some .badIdentity := by decide +kernel
/-- A call whose source is the controller's own number 7 is delivered, and no answer is sent to 7 (R7). -/
theorem test_no_answer_to_an_own_number :
    (let d := dispose false (.good { message with source := 7 }) base
     d.1 = none ∧ d.2.intake.inboxes[0].length = 1) ∧
    (dispose false (.malformed { message with kind := 3, source := 7 }) base).1 = none ∧
    (dispose false (.malformed { message with kind := 3 }) base).1.isSome = true := by decide +kernel
/-- The record of a broadcast shows tag 0 (R100). -/
theorem test_broadcast_record_has_tag_0 :
    (intake { message with dest := 0 } base).2.intake.inboxes[0].map InRecord.tag = [0] := by decide +kernel
/-- A clash in the tag field, bits 16 to 19, is a node conflict (R31). -/
theorem test_tag_clash : after (exec (.bitClash 19) (calling (.transmitting .call own)))
    (fun t => t.link.conflicts = 1 ∧ t.link.faults = 1 ∧ t.calls.slots[0].outcome = some .linkFault) = true := by
  decide +kernel
theorem test_later_clash : after (exec (.bitClash 20) (calling (.transmitting .call own)))
    (fun t => t.link.conflicts = 0 ∧ t.link.faults = 1) = true := by decide +kernel
theorem test_sent_opens_window : after (exec .sentCleanly (calling (.transmitting .call own)))
    (fun t => t.link.act = .awaiting own ∧ t.events.counters[0] = 1) = true := by decide +kernel
theorem test_no_answer_retries : after (exec .answerWindowExpiry
      (withSlot 0 { put with state := .active, attempts := 1, tag := some 3, budget := 1 } 1 [0] (calling (.awaiting own))))
    (fun t => t.calls.slots[0].state = .active ∧ t.calls.backoff[1] = some ⟨1000, 50⟩) = true := by decide +kernel
theorem test_lineHigh_leaves_stuck : after (exec .lineHigh (inAct .stuck))
    (fun t => t.link.act = .settling ∧ t.events.sticky.getLsbD 10) = true := by decide +kernel

/-! ## Timers -/

/-- The refresh of section 7.7: 224 quanta of 128 µs are 28672 µs. -/
theorem test_refresh_time :
    after (exec .sentCleanly { inAct (.transmitting (.hold .assertion) ⟨0, 0, 5, 7, 0, [0x0C, 1, 0]⟩) with
        hold := { base.hold with asserted := 0x0C, pendAssert := 0x0C } })
      (fun t => t.hold.refresh = some ⟨28672, 50⟩ ∧ t.hold.pendAssert = 0) = true := by decide +kernel
/-- A lease of 100 ms that ends: no holder, cause EXPIRED (R82, R84). -/
theorem test_lease_expiry : after (exec .leaseExpiry { base with sess := { base.sess with
      holder := some 5, leaseTimer := some ⟨0, 50⟩ } })
    (fun t => t.sess.holder = none ∧ t.sess.lastEnd = .expired ∧ t.events.sticky.getLsbD 16) = true := by decide +kernel
theorem test_idle_step_counts : after (step { base with hold := { base.hold with
      timers := base.hold.timers.set 2 (some ⟨2, 1⟩) } })
    (fun t => t.hold.timers[2] = some ⟨1, 50⟩) = true := by decide +kernel

/-! ## One edge (R132) -/

/-- The lease of `base`'s holder, 5, ends on the present edge. -/
def lapsing : State := { base with sess := { base.sess with holder := some 5, leaseTimer := some ⟨0, 50⟩ } }
/-- A BREAK_CLAIM on the edge of a lease expiry finds no holder. -/
theorem test_breakClaim_on_the_edge_of_the_lease_expiry : after (exec .breakClaim lapsing)
    (fun t => t.host.cmdr.result = .empty ∧ t.sess.lastEnd = .expired) = true := by decide +kernel
/-- The timer reaches its end with the edge, and the expiry waits for the line event of that edge. -/
theorem test_expiry_waits_for_the_line_event :
    after (step { lapsing with sess := { lapsing.sess with leaseTimer := some ⟨1, 1⟩ } })
      (fun t => t.sess.holder = some 5 ∧ after (step t) (fun u => u.sess.holder = none) = true) = true := by decide +kernel
/-- A write of EVST on the edge of an expiry leaves the bit that it raises (R153). -/
theorem test_evstWrite_keeps_an_expiry_of_its_edge : after (exec (.evstWrite 0xFFFFFFFF .shared) lapsing)
    (fun t => t.events.sticky = 0x10000) = true := by decide +kernel

/-! ## The pin -/

/-- `base` at 1 bt = 8 HCLK cycles, with this pin. -/
def pinned (l : Line) (s : State) : State := { s with
  cfg := { base.cfg with tickdiv := 7, linkcfg := { base.cfg.linkcfg with rate := 0 } }, link := { s.link with line := l } }

/-- A falling edge starts the stuck timer with the limit of 5 ms, and a rising edge stops it (R134). -/
theorem test_stuck_timer_follows_the_line :
    after (step (pinned { others := [true] } base)) (fun t => t.link.line.stuck = some ⟨5000, 8⟩) = true ∧
    after (step (pinned { others := [], low := some 3, stuck := some ⟨5000, 8⟩ } base))
      (fun t => t.link.line.stuck = none) = true := by decide +kernel
/-- The stuck timer that runs out with this cycle expires on the edge that ends it (R135). -/
theorem test_stuck_timer_expires : after (step (pinned { others := [true], low := some 9, stuck := some ⟨1, 1⟩ } base))
    (fun t => t.link.act = .idle ∧ after (step t) (fun u => u.link.act = .stuck ∧ u.events.sticky.getLsbD 9)) = true := by
  decide +kernel
/-- A pulse takes the free bus at 0.5 bt, 4 HCLK cycles here, and not before (R9, R27). -/
theorem test_half_bt_of_a_pulse :
    let free (l : Line) : State := pinned l { base with link := { base.link with bus := .free } }
    after (step (free { others := [true], low := some 2 })) (fun t => t.link.bus = .free) = true ∧
    after (step (free { others := [true], low := some 3 })) (fun t => t.link.bus = .busy) = true := by decide +kernel
/-- The lead cell is low for 2 bt and 3 bt long; the tail cell is low for 1.5 bt (R2). -/
theorem test_cells_of_the_lead_and_tail :
    ack.cellLow 8 0 = 16 ∧ ack.cellLength 8 0 = some 24 ∧ ack.cellLow 8 43 = 12 ∧ ack.cellLength 8 43 = none ∧
    (pinned { cellAge := 15 } (inAct (.answering ack true))).drives = true ∧
    (pinned { cellAge := 16 } (inAct (.answering ack true))).drives = false := by decide +kernel

/-- A data cell that ends on this cycle, and one that does not: the next cell begins 1 bt after the falling edge of this
one, and a foreign edge 2 cycles old is then the edge of both (R2); a foreign edge inside a cell begins none. -/
theorem test_cells_keep_the_time_of_the_table :
    let at' (l : Line) := after (step (pinned l (inAct (.answering ack true))))
    at' { cell := 5, cellAge := 7 } (fun t => t.link.line.cell = 6 ∧ t.link.line.cellAge = 0) = true ∧
    at' { cell := 5, cellAge := 7, others := [true], low := some 1, pulled := true }
      (fun t => t.link.line.cell = 6 ∧ t.link.line.cellAge = 2) = true ∧
    at' { cell := 5, cellAge := 2, others := [true] } (fun t => t.link.line.cell = 5 ∧ t.link.line.cellAge = 3) = true := by
  decide +kernel
/-- A falling edge on the HCLK edge at which the answer starts does not stop it; by the next event of its edge, and for a
host read, the answer is given up: LISTENING, code 6 (R39). -/
theorem test_edge_before_an_answer :
    let s := pinned { others := [true, true] } (inAct (.answering ack false))
    after (step s) (fun t => after (exec .answerStart t) (fun u => u.link.act = .answering ack true ∧ u.drives) &&
      decide ((expireDue t).readReg .sstat &&& 0xF = 6) &&
      after (exec (.backoffExpiry 0) t) (fun u => u.link.act = .pulse) &&
      after (step t) (fun u => after (exec .answerStart u) (fun v => v.link.act = .pulse ∧ !v.drives))) = true := by
  decide +kernel
/-- A pulse that falls on the edge of the quiet gap's end came while the bus was free: 0.5 bt (4 cycles) later it is not,
and a selection until then is timed from it (R5, R27). -/
theorem test_pulse_on_the_edge_of_the_quiet_gap_end :
    let s := pinned { others := [true, true, true, true, true] } { base with link := { base.link with bus := .busy } }
    after (step s) (fun t => after (exec .quietGapEnd t) (fun u =>
      u.link.bus = .free ∧ u.link.line.low = some 0 ∧
      after (step u) (fun v => v.link.line.low = some 1 ∧ v.link.bus = .free))) = true := by decide +kernel

/-! ## Witnesses: the hypotheses of the statements are met, clause by clause -/

/-- Timers that run on past one HCLK cycle. -/
def ticking : State := { base with
  hold := { base.hold with timers := base.hold.timers.set 3 (some ⟨1, 2⟩) }
  sess := { base.sess with stack := [⟨4, 7, 9, some ⟨1, 2⟩, false⟩] } }

theorem witness_EmptyQueueCountsOneCycle :
    let due (us : Nat) : State := { ticking with
      hold := { ticking.hold with timers := ticking.hold.timers.set 3 (some ⟨0, 50⟩) }
      doze := { ticking.doze with idle := some ⟨us, 1⟩ } }
    ticking.pending = [] ∧ ticking.inReset = false ∧ dueRows ticking = [] ∧
    (due 1).pending = [] ∧ (due 1).inReset = false ∧ dueRows (due 1) = [.incomingHoldExpiry 3] ∧
    dueRows (due 0) = [.incomingHoldExpiry 3, .dozeIdleExpiry] := by decide +kernel
theorem witness_TimerRunsItsFullTime : 0 < 1 := by decide
theorem witness_ParcelWireRoundTrip :
    8 ≤ 8 ∧ (⟨0, 7, 0, 5, 1, List.replicate 32 0xFF⟩ : Parcel).payload.length ≤ Config.maxPayload := by decide
theorem witness_LowestKeyWinsContention :
    (⟨1, 4, 0, 9, 0, []⟩ : Parcel).key < (⟨1, 4, 1, 12, 0, []⟩ : Parcel).key := by decide
theorem witness_RegisterLayoutsRoundTrip : ({ source := 30 } : Route).source ≠ 31 ∧
    ({ source := 0 } : WakeFilter).source ≠ 31 ∧
    ((23 : SlotId).val = (23 : BitVec 5).toNat ∧ 24 ≤ (24 : BitVec 5).toNat) ∧ (3 : Fin 4).val = (3 : BitVec 2).toNat ∧
    base.calls.cq = [] ∧ (∃ r : Completion, [r] ≠ []) ∧ base.intake.inboxes[3] = [] ∧
    (∃ r : InRecord, r :: [] ≠ []) ∧ base.sess.stack.length < (1 : Fin 7).val ∧
    (∃ e : SessEntry, [e][[e].length - (1 : Fin 7).val]? = some e) ∧
    (63 : Fin 64).val = 32 * (1 : Fin 2).val + (31 : Fin 32).val :=
  ⟨by decide, by decide, by decide, rfl, rfl, ⟨⟨0, .acked, 0, 0, none, 0, 0⟩, by simp⟩, by decide +kernel,
    ⟨⟨5, .primary, 0, 0, [], 0⟩, by simp⟩, by decide, ⟨⟨4, 7, 9, none, false⟩, rfl⟩, rfl⟩
theorem witness_HostWritesAreTheirRows : base.inReset = false ∧ regAt 0x008 = some .ident ∧ regAt 0x028 = none := by
  decide
theorem witness_HardResetState : (Instr.reset = .reset ∨ Instr.reset = .powerOn) ∧
    (Instr.powerOn = .reset ∨ Instr.powerOn = .powerOn) ∧
    (let s : State := { base with inReset := true }
     s.inReset = true ∧ s.pending = []) ∧
    (Instr.doze ≠ .reset ∧ Instr.doze ≠ .powerOn ∧ Instr.doze ≠ .evstReadClear) := by decide
/-- RESET# is high in `base`, as the statements about host accesses ask. -/
theorem witness_SoftResetKeepsConfiguration : base.inReset = false := rfl
theorem witness_ConfigurationTakenOrRefused : base.inReset = false := rfl
theorem witness_LinkEnabledAndDisabled : base.inReset = false := rfl
theorem witness_EventsAndCountersCleared : base.inReset = false ∧
    [Counter.txParcels, .rxParcels, .rxCheckErrors, .arbLosses, .markFaults, .malformed, .inboxDrops, .repeats].idxOf
      .repeats = (7 : Fin 8).val := by decide
theorem witness_DozeAndWakeCommands : base.inReset = false := rfl
theorem witness_RegisterWriteReadsBack :
    (regAt 0x020 = some .even ∧ isPlain .even = true) ∧
    (regAt 0x19C = some (.boardwr 1) ∧ isPlain (.boardwr 1) = true) ∧
    (Reg.stageh ≠ .even ∧ isStored .stageh = true) ∧
    (regAt 0x004 = some .sstat ∧ isPlain .sstat = false ∧ Reg.sstat.hasWriteRow = false) ∧
    regAt 0x028 = none := by decide
theorem witness_EvaluationMovesClasses : base.cfg.holdcfg.outEn = false ∧
    ({ base with cfg := { base.cfg with holdcfg := { outEn := true } } } : State).cfg.holdcfg.outEn = true := by decide
theorem witness_HoldSettingsTakeEffect :
    let on := ({ base with cfg := { base.cfg with holdcfg := { outEn := true } } } : State).cfg.holdcfg.outEn
    (on = true ∧ (0 : Word).getLsbD 1 = false) ∧ base.cfg.holdcfg.outEn = (0 : Word).getLsbD 1 ∧
    (base.cfg.holdcfg.outEn = false ∧ (2 : Word).getLsbD 1 = true) := by decide
theorem witness_AbandonmentWithdraws :
    (calling (.contending .call own)).calls.current = some 0 ∧
    (∃ p, (calling (.contending .call own)).link.act = .contending .call p) ∧
    (∃ p, (calling (.awaiting own)).link.act = .transmitting .call p ∨
      (calling (.awaiting own)).link.act = .awaiting p ∨ (calling (.awaiting own)).link.act = .listening (some p)) ∧
    ownCall (inAct (.contending (.hold .manual) own)).link.act = false :=
  ⟨rfl, ⟨own, rfl⟩, ⟨own, .inr (.inl rfl)⟩, rfl⟩
theorem witness_BoardWriteStages : base.inReset = false ∧ base.board[63].isStaged = false := by decide +kernel

/-- A staged PUT to node 4 of one byte. -/
def staged : State := { base with host := { base.host with stageh := 0x00010410 } }
/-- Every slot but the last is taken. -/
def crowded : State := { staged with calls := { staged.calls with
  slots := Vector.ofFn fun n : SlotId => if n.val < 23 then { state := .harvested, outcome := some .acked } else {} } }
/-- Every slot is taken. -/
def full : State := { staged with calls := { staged.calls with
  slots := Vector.replicate 24 { state := .harvested, outcome := some .acked } } }

theorem witness_SubmitQueuesCall :
    (staged.submitCheck = none ∧ staged.calls.slots[0].state = .free) ∧
    (crowded.submitCheck = none ∧ crowded.calls.slots[23].state = .free ∧
      ∀ m : SlotId, m < 23 → crowded.calls.slots[m].state ≠ .free) := by decide +kernel
/-- One descriptor whose first failing check is each of the six: kind HOLD; destination 31; a FETCH broadcast; a PUT of 33
bytes; an alias that is not set; an own identity. The last state passes every check and finds no slot. -/
theorem witness_SubmitRefused :
    let fails := fun (w : Word) (i : Ident) (k : Nat) =>
      let kind : BitVec 4 := w.extractLsb' 0 4
      let dest : BitVec 5 := w.extractLsb' 8 5
      let len := (w.extractLsb' 16 6).toNat
      decide ((k = 1 ∧ kind ∉ [0#4, 1#4, 2#4, 3#4, 4#4, 6#4]) ∨ (k = 2 ∧ dest = 31) ∨
      (k = 3 ∧ dest = 0 ∧ kind ≠ 0 ∧ kind ≠ 6) ∨
      (k = 4 ∧ ((kind = 0 ∧ 32 < len) ∨ (kind = 1 ∧ len ≠ 2) ∨ (kind = 2 ∧ len ≠ 5) ∨
        (kind ∈ [3#4, 4#4, 6#4] ∧ len ≠ 0))) ∨
      (k = 5 ∧ kind ≠ 4 ∧ w.getLsbD 6 = true ∧ i.aliasId = 0) ∨
      (k = 6 ∧ dest ≠ 0 ∧ (dest = i.primary ∨ dest = i.aliasId)))
    let first := fun (w : Word) (i : Ident) (k : Nat) => fails w i k = true ∧ ∀ j, j < k → fails w i j = false
    let id := base.cfg.ident
    first 0x00000405 id 1 ∧ first 0x00001F00 id 2 ∧ first 0x00020001 id 3 ∧ first 0x00210400 id 4 ∧
    first 0x00000440 { primary := 7 } 5 ∧ first 0x00001300 id 6 ∧
    (∀ k, fails full.host.stageh full.cfg.ident k = false) ∧ ∀ n : SlotId, full.calls.slots[n].state ≠ .free := by
  dsimp only
  refine ⟨by decide, by decide, by decide, by decide, by decide, by decide, ?_, by decide +kernel⟩
  intro k
  rw [decide_eq_false_iff_not]
  rintro (⟨_, h⟩ | ⟨_, h⟩ | ⟨_, h⟩ | ⟨_, h⟩ | ⟨_, h⟩ | ⟨_, h⟩) <;> revert h <;> decide
theorem witness_CancelByState :
    24 ≤ ((24 : BitVec 24).extractLsb' 0 8).toNat ∧ (23 : SlotId).val = ((23 : BitVec 24).extractLsb' 0 8).toNat ∧
    (withSlot 23 put 1 [23] base).calls.slots[23].state = .queued ∧
    (let s := withSlot 23 { put with state := .active } 1 [23] base
     s.calls.slots[23].state = .active ∧ s.calls.current ≠ some 23) ∧
    (let s := calling (.awaiting own)
     (0 : SlotId).val = ((0 : BitVec 24).extractLsb' 0 8).toNat ∧ s.calls.slots[0].state = .active ∧
      s.calls.current = some 0) ∧
    full.calls.slots[23].state ∈ [SlotState.free, .done, .harvested] := by decide +kernel
theorem witness_SlotsHarvestedAndRetired :
    base.calls.cq = [] ∧
    (∃ r rest, ({ base with calls := { base.calls with cq := [⟨23, .acked, 1, 0, none, 0, 0⟩] } } : State).calls.cq =
      r :: rest) ∧
    24 ≤ ((24 : BitVec 24).extractLsb' 0 8).toNat ∧ (23 : SlotId).val = ((23 : BitVec 24).extractLsb' 0 8).toNat ∧
    full.calls.slots[23].state = .harvested ∧ base.calls.slots[23].state ≠ .harvested :=
  ⟨rfl, ⟨_, _, rfl⟩, by decide, by decide, by decide +kernel, by decide +kernel⟩

/-- Three calls of class 1 to node 4 in its queue: an ACTIVE head with CHAIN 1 in backoff, one QUEUED with CHAIN 1, and
one QUEUED without; slot 5 of class 3 waits too. -/
def chained : State :=
  let s := { base with calls := { base.calls with
    slots := ((((base.calls.slots.set 0 { put with state := .active, chain := true, attempts := 1, budget := 1, tag := some 0 }).set 1
      { put with chain := true }).set 2 put).set 5 { put with cls := 3 })
    backoff := base.calls.backoff.set 1 (some ⟨900, 50⟩) } }
  { s with calls := { s.calls with queues := (s.calls.queues.set 1 [0, 1, 2]).set 3 [5] } }

theorem chained_queues : QueuesCoherent chained where
  member := by decide +kernel
  once := by decide +kernel
  head := by decide +kernel
  records := by decide +kernel
  recordsOnce := by decide +kernel
  free := by decide +kernel
  outcome := by decide +kernel
  current := by decide +kernel
  underWay := by decide +kernel
  successor := by decide +kernel

theorem chained_tags : TagsCoherent chained where
  zero := by decide +kernel
  dest := by decide +kernel
  unicast := by decide +kernel
  started := by decide +kernel
  entry := by
    intro n t
    have key : ∀ n : SlotId, chained.calls.slots[n].tag = none ∨
      (chained.calls.slots[n].tag = some 0 ∧ chained.tagOf chained.calls.slots[n].dest = 0) := by decide +kernel
    rcases key n with h | ⟨h, g⟩ <;> rw [h] <;> simp_all
  interlock := by decide +kernel

theorem chained_sessions : SessionsCoherent chained where
  depth := by decide +kernel
  nodes := by decide +kernel
  gate := by decide +kernel
  claim := by decide +kernel
  release := by decide +kernel

theorem chained_attempts : AttemptsBounded chained where
  attempts := by decide +kernel
  waiting := by decide +kernel
  won := by decide +kernel
  losses := by decide +kernel
  cancel := by decide +kernel
  backoff := by decide +kernel

theorem witness_FlushCompletesQueued : QueuesCoherent chained ∧ TagsCoherent chained ∧ SessionsCoherent chained ∧
    4 ≤ ((4 : BitVec 24).extractLsb' 0 8).toNat ∧ (3 : Fin 4).val = ((3 : BitVec 24).extractLsb' 0 8).toNat ∧
    (1 : Fin 4).val = ((1 : BitVec 24).extractLsb' 0 8).toNat :=
  ⟨chained_queues, chained_tags, chained_sessions, by decide, by decide, by decide⟩
theorem witness_TagResetWhenIdle :
    31 ≤ ((31 : BitVec 24).extractLsb' 0 8).toNat ∧
    (∃ n : SlotId, ((0 : BitVec 24).extractLsb' 0 8).toNat = 0 ∧ chained.calls.slots[n].state = .active ∧
      chained.calls.slots[n].tag.isSome = true) ∧
    (∃ n : SlotId, chained.calls.slots[n].dest.toNat = ((4 : BitVec 24).extractLsb' 0 8).toNat ∧
      chained.calls.slots[n].state = .active ∧ chained.calls.slots[n].tag.isSome = true) ∧
    ((30 : BitVec 24).extractLsb' 0 8).toNat < 31 ∧
    (∀ n : SlotId, chained.calls.slots[n].dest.toNat ≠ ((30 : BitVec 24).extractLsb' 0 8).toNat ∧
      chained.calls.current ≠ some n) := by decide +kernel

/-- One record in inbox 3. -/
def filled : State := { base with intake := { base.intake with
  inboxes := base.intake.inboxes.set 3 [⟨5, .primary, 2, 1, [0x11], 65535⟩] } }

theorem witness_InboxesPoppedAndFlushed :
    4 ≤ ((4 : BitVec 24).extractLsb' 0 8).toNat ∧ (3 : Fin 4).val = ((3 : BitVec 24).extractLsb' 0 8).toNat ∧
    base.intake.inboxes[3] = [] ∧ ∃ r rest, filled.intake.inboxes[3] = r :: rest :=
  ⟨by decide, by decide, by decide +kernel, ⟨_, _, rfl⟩⟩
/-- The last entry of each table and the first index beyond it; a repeat record that is set, of source 30. -/
theorem witness_TableReadShowsEntry :
    (∀ t : Fin 4, let a : BitVec 24 := BitVec.ofNat 24 (t.val * 65536 + [16, 4, 31, 30].getD t.val 0)
      a.getLsbD 23 = false ∧ (a.extractLsb' 16 2).toNat = t.val ∧
      (a.extractLsb' 0 8).toNat = [16, 4, 31, 30].getD t.val 0) ∧
    ({ base with intake := { base.intake with repeats := base.intake.repeats.set 29 (some ⟨15, .swap, 7⟩) } } :
      State).intake.repeats[29] = some ⟨15, .swap, 7⟩ ∧ base.intake.repeats[29] = none := by decide +kernel
theorem witness_TableWriteStoresEntry :
    let legal := fun (a : BitVec 24) (d : Word) => d.extractLsb' 0 5 ≠ 31#5 ∧
      ((a.extractLsb' 16 2 = 0 ∧ (a.extractLsb' 0 8).toNat < 16 ∧ d.extractLsb' 20 2 ≠ 3#2) ∨
        (a.extractLsb' 16 2 = 1 ∧ (a.extractLsb' 0 8).toNat < 4))
    legal 0x00000F 0x8002F71E ∧ legal 0x010003 0x87FFFF1E ∧ ¬ legal 0x000010 0 ∧ ¬ legal 0x010004 0 ∧
      ¬ legal 0x000000 0x0000001F ∧ ¬ legal 0x000000 0x00300000 ∧ ¬ legal 0x020000 0 := by decide
theorem witness_PublishCommitsStaged :
    let first := fun a : BitVec 24 => (a.extractLsb' 0 8).toNat
    let n := fun a : BitVec 24 => (a.extractLsb' 8 8).toNat
    n 0x000010 = 0 ∧ 64 < first 0x00023F + n 0x00023F ∧ n 0x00013F ≠ 0 ∧ first 0x00013F + n 0x00013F ≤ 64 ∧
      n 0x004000 ≠ 0 ∧ first 0x004000 + n 0x004000 ≤ 64 := by decide
theorem witness_WithdrawAndAbsorbClearFlags :
    let first := fun a : BitVec 24 => (a.extractLsb' 0 8).toNat
    let n := fun a : BitVec 24 => (a.extractLsb' 8 8).toNat
    (n 0x000000 = 0 ∨ 64 < first 0x000000 + n 0x000000) ∧ n 0x000100 ≠ 0 ∧ first 0x000100 + n 0x000100 ≤ 64 := by
  decide
/-- One claim held at node 4; node 5 holds this controller. -/
def claimed : State := { base with sess := { base.sess with
  stack := [⟨4, 7, 100, some ⟨900, 1⟩, false⟩], holder := some 5, leaseTimer := some ⟨900, 1⟩ } }
theorem witness_HoldDropAndBreakCommands :
    ({ claimed with sess := { claimed.sess with gate := some 0 } } : State).sess.gate ≠ none ∧
    (base.sess.gate = none ∧ base.sess.stack = []) ∧
    (∃ e rest, claimed.sess.gate = none ∧ claimed.sess.stack = e :: rest) ∧
    base.sess.holder = none ∧ ∃ h, claimed.sess.holder = some h :=
  ⟨by decide, ⟨rfl, rfl⟩, ⟨_, _, rfl, rfl⟩, rfl, ⟨_, rfl⟩⟩
theorem witness_RestartAndQuarantineClear :
    State.reset.link.act = .off ∧
    (let s : State := { base with doze := { base.doze with state := .dozing } }
     s.link.act ≠ .off ∧ s.doze.state = .dozing) ∧
    (base.link.act ≠ .off ∧ base.doze.state ≠ .dozing) ∧ base.link.quarantine = false ∧
    ({ base with link := { base.link with quarantine := true } } : State).link.quarantine = true := by decide
theorem witness_RefusedCommandsChangeNothing : (Instr.badCode 0x00).wellFormed = true ∧
    (Instr.badCode 0xFF).wellFormed = true ∧ isCommand .cqPop = true ∧
    after (exec .cqPop base) (fun t => t.host.cmdr.result ≠ .ok) = true := by decide +kernel
theorem witness_OutcomeClosesCall : chained.calls.slots[2].chain = false ∧
    chained.calls.slots[0].chain = true ∧ CallOutcome.flushed ∈ [CallOutcome.acked, .sent, .flushed] ∧
    CallOutcome.linkFault ∉ [CallOutcome.acked, .sent, .flushed] ∧ chained.calls.slots[0].open = true := by decide +kernel
/-- The hypothesis on a chained call is met, and the leases 0, 1 and 2 meet the three cases of a pushed entry's mirror. -/
theorem witness_OutcomeClosesCall_coherent :
    ClassQueuesCoherent chained ∧ TagsCoherent chained ∧ SessionsCoherent chained ∧
      ∀ age : Nat, ((1 : Byte).toNat - 1) * 1000 * 50 ≤ age ∧ (age < 50000 → age < ((2 : Byte).toNat - 1) * 1000 * 50) :=
  ⟨chained_queues.toClassQueuesCoherent, chained_tags, chained_sessions, fun _ => ⟨Nat.zero_le _, id⟩⟩
theorem witness_ChainBreaksInQueueOrder : ClassQueuesCoherent chained ∧ chained.calls.slots[0].open = true ∧
    chained.calls.slots[0].chain = true ∧ CallOutcome.refused ∉ [CallOutcome.acked, .sent, .flushed] ∧
    chained.calls.queues[chained.calls.slots[0].cls] = [] ++ 0 :: [1, 2] :=
  ⟨chained_queues.toClassQueuesCoherent, by decide +kernel, by decide +kernel, by decide, by decide +kernel⟩
/-- The state in which the end of the last attempt of a chained call decides its outcome: the call is ACTIVE and current no
longer, while the link has not left its attempt. -/
theorem witness_ChainBreaksInQueueOrder_attempt_end :
    let s : State := { chained with link := { chained.link with act := .awaiting own } }
    ClassQueuesCoherent s ∧ TagsCoherent s ∧ SessionsCoherent s ∧ s.calls.current = none ∧ ownCall s.link.act = true :=
  ⟨⟨chained_queues.member, chained_queues.once, chained_queues.head, chained_queues.successor⟩,
    ⟨chained_tags.zero, chained_tags.dest, chained_tags.unicast, chained_tags.started, chained_tags.entry,
      chained_tags.interlock⟩,
    ⟨chained_sessions.depth, chained_sessions.nodes, chained_sessions.gate, chained_sessions.claim,
      chained_sessions.release⟩, by decide +kernel, rfl⟩

/-- `base` with the bus free. -/
def free : State := { base with link := { base.link with bus := .free } }
theorem witness_EndOfEvent :
    (inAct .settling).link.act ≠ .idle ∧ base.link.bus ≠ .free ∧
    ({ base with doze := { base.doze with state := .dozing } } : State).doze.state = .dozing ∧
    (let s : State := { free with doze := { base.doze with state := .pending } }
     s.link.bus = .free ∧ s.doze.state = .pending ∧ s.hold.pendAssert = 0 ∧ s.hold.pendRelease = 0 ∧
       s.hold.manual = none) := by decide
/-- A RELEASE with an empty stack; a PUT to an own identity; a CLAIM of a node on the stack; a CLAIM with six entries; a
call that passes. -/
theorem witness_EligibilityAndStartChecks :
    let fails := fun (x : Slot) (st : List SessEntry) (k : Nat) =>
      let own := fun d : BitVec 5 => decide (d ≠ 0 ∧ (d = base.cfg.ident.primary ∨ d = base.cfg.ident.aliasId))
      let sends : BitVec 5 := if x.kind = 4 then (st.head?.map SessEntry.identity).getD 0
        else if x.idsel then base.cfg.ident.aliasId else base.cfg.ident.primary
      decide ((k = 1 ∧ x.state = .queued ∧ x.kind = 4 ∧ st.head?.map SessEntry.node ≠ some x.dest) ∨
      (k = 2 ∧ (own sends = false ∨ own x.dest = true)) ∨
      (k = 3 ∧ x.state = .queued ∧ x.kind = 3 ∧ x.dest ∈ st.map SessEntry.node) ∨
      (k = 4 ∧ x.state = .queued ∧ x.kind = 3 ∧ 6 ≤ st.length))
    let first := fun (x : Slot) (st : List SessEntry) (k : Nat) => fails x st k = true ∧ ∀ j, j < k → fails x st j = false
    let e := fun n : BitVec 5 => (⟨n, 7, 0, none, false⟩ : SessEntry)
    first { put with kind := 4 } [] 1 ∧ first { put with dest := 19 } [] 2 ∧ first { put with kind := 3 } [e 4] 3 ∧
    first { put with kind := 3 } [e 1, e 2, e 3, e 5, e 6, e 8] 4 ∧ ∀ k, fails put [] k = false := by
  dsimp only
  refine ⟨by decide, by decide, by decide, by decide, fun k => ?_⟩
  rw [decide_eq_false_iff_not]
  rintro (⟨_, h⟩ | ⟨_, h⟩ | ⟨_, h⟩ | ⟨_, h⟩) <;> revert h <;> decide

theorem witness_SelectionOrder :
    let h := fun (u : HoldUnit) => ({ free with hold := u } : State)
    let s := withSlot 0 put 1 [0] free
    (free.link.act = .idle ∧ free.link.bus = .free ∧ free.doze.state ≠ .dozing) ∧
    (h { free.hold with pendAssert := 1 }).hold.pendAssert ≠ 0 ∧
    ((h { free.hold with pendRelease := 8 }).hold.pendAssert = 0 ∧
      (h { free.hold with pendRelease := 8 }).hold.pendRelease ≠ 0) ∧
    (h { free.hold with manual := some (3, 0) }).hold.manual = some (3, 0) ∧
    (free.hold.pendAssert = 0 ∧ free.hold.pendRelease = 0 ∧ free.hold.manual = none) ∧
    (s.calls.queues[1].head? = some 0 ∧ s.eligible 0 = true ∧ s.startCheck 0 = none) ∧
    (let t := { s with calls := { s.calls with successor := some 0 } }
     t.calls.successor = some 0 ∧ t.eligible 0 = true) ∧
    (let t := withSlot 0 { put with dest := 7 } 1 [0] free
     t.eligible 0 = true ∧ t.startCheck 0 = some .badIdentity) := by decide +kernel
/-- A selection with a call that a start check completes, in a coherent state. -/
theorem witness_SelectionOrder_coherent :
    ∃ s : State, s.link.act = .idle ∧ s.link.bus = .free ∧ s.calls.queues[1].head? = some 0 ∧ s.eligible 0 = true ∧
      s.startCheck 0 = some .badIdentity ∧ QueuesCoherent s :=
  ⟨withSlot 0 { put with dest := 7 } 1 [0] free, rfl, rfl, by decide +kernel, by decide +kernel, by decide +kernel,
    ⟨by constructor <;> decide +kernel, by decide +kernel, by decide +kernel, by decide +kernel, by decide +kernel,
      by decide +kernel, by decide +kernel⟩⟩

theorem witness_LinkMovesWithTheLine :
    (base.link.act = .idle ∧ base.link.bus ≠ .ignoring) ∧
    (let s : State := { base with link := { base.link with bus := .ignoring } }
     s.link.act = .idle ∧ s.link.bus = .ignoring) ∧
    (inAct .settling).link.act = .settling ∧ (inAct (.awaiting own)).link.act = .awaiting own ∧
    ((inAct (.answering ack false)).link.act = .answering ack false ∧ base.link.line.low = none ∧
      (pinned { low := some 1 } (inAct (.answering ack false))).link.line.low ≠ none ∧ base.events.edgeFell = false ∧
      (let t := markFall (pinned { low := some 0 } (inAct (.answering ack false)))
       t.events.edgeFell = true ∧ lineEdge t = begun t)) ∧
    (inAct .pulse).link.act = .pulse ∧ (inAct .stuck).link.act = .stuck ∧
    (inAct (.contending (.hold .release) own)).link.act = .contending (.hold .release) own ∧
    ((calling (.contending .call own)).link.act = .contending .call own ∧
      (calling (.contending .call own)).calls.current = some 0) := by decide +kernel
/-- `own` has 50 bits: the clauses meet at bits 16, 19, 20 and 49. -/
theorem witness_FaultsOnOwnParcels :
    (calling (.transmitting .call own)).link.act = .transmitting .call own ∧
    (inAct (.transmitting (.hold .manual) own)).link.act = .transmitting (.hold .manual) own ∧
    (inAct (.answering ack true)).link.act = .answering ack true ∧
    (calling (.contending .call own)).link.act = .contending .call own ∧
    (inAct (.contending (.hold .manual) own)).link.act = .contending (.hold .manual) own ∧
    16 ≤ 16 ∧ 49 < 42 + 8 * own.payload.length ∧ 41 < 42 + 8 * ack.payload.length ∧ 19 < 20 ∧ ¬ 20 < 20 := by
  decide +kernel
theorem witness_OwnParcelsSent :
    (own.dest ≠ 0 ∧ (calling (.transmitting .call own)).link.act = .transmitting .call own) ∧
    (let p : Parcel := { own with dest := 0, tag := 0 }
     p.dest = 0 ∧ (calling (.transmitting .call p)).link.act = .transmitting .call p) ∧
    (∀ k : HoldKind, k ∈ [HoldKind.assertion, .release, .manual] →
      (inAct (.transmitting (.hold k) own)).link.act = .transmitting (.hold k) own) ∧
    (inAct (.answering ack true)).link.act = .answering ack true ∧
    ((calling (.awaiting own)).link.act = .awaiting own ∧ (calling (.awaiting own)).link.line.low = none ∧
      (pinned { low := some 0 } (calling (.awaiting own))).link.line.low ≠ none) := by decide +kernel
theorem witness_CallEngineReports : (calling (.awaiting own)).calls.current = some 0 ∧
    (∃ d, ExchangeResult.deferred 0x11 = .deferred d) ∧ (∃ code, ExchangeResult.answerFault 8 = .answerFault code) ∧
    ∃ b, ExchangeResult.broken .markFault = .broken b := ⟨rfl, ⟨_, rfl⟩, ⟨_, rfl⟩, ⟨_, rfl⟩⟩
/-- Entries at the boundary: with a lease of 1 the end has come at once; with a lease of 2 it is 49999 cycles on, or has
just come. -/
theorem witness_AckRestartsMirrors :
    let e := fun l : BitVec 8 => (⟨4, 7, l, none, false⟩ : SessEntry)
    let renews := fun e : SessEntry => e.node = own.dest ∧ e.identity = own.source ∧ e.lapsed = false ∧ e.lease ≠ 0
    renews (e 1) ∧ ((e 1).lease.toNat - 1) * 1000 * 50 ≤ 0 ∧ renews (e 2) ∧ ((e 2).lease.toNat - 1) * 1000 * 50 ≤ 50000 ∧
      49999 < ((e 2).lease.toNat - 1) * 1000 * 50 ∧ ¬ renews (e 0) := by decide

/-- One parcel for each check of R33: a call kind, another destination, source, class, tag and length, and an ACK, a NAK
and a DEFER that pass. -/
theorem witness_WindowVerdict :
    (let r : RxResult := .markFault; r = .markFault ∨ r = .overrun ∨ r = .overlength) ∧
    (∃ p, RxResult.good ack = .good p ∨ RxResult.good ack = .malformed p) ∧
    ({ ack with kind := 0 } : Parcel).kind ≠ 8 ∧ ({ ack with dest := 9 } : Parcel).dest ≠ own.source ∧
    ({ ack with source := 9 } : Parcel).source ≠ own.dest ∧ ({ ack with cls := 0 } : Parcel).cls ≠ own.cls ∧
    ({ ack with tag := 2 } : Parcel).tag ≠ own.tag ∧ ({ ack with payload := [0] } : Parcel).payload.length ≠ 0 ∧
    (ack.dest = own.source ∧ ack.source = own.dest ∧ ack.cls = own.cls ∧ ack.tag = own.tag ∧ ack.payload.length = 0) ∧
    ({ ack with kind := 9, payload := [1] } : Parcel).payload.length = 1 ∧
    ({ ack with kind := 10, payload := [0x11] } : Parcel).payload.length = 1 :=
  ⟨.inl rfl, ⟨ack, .inl rfl⟩, by decide⟩

/-- `base` listening at 8 MHz and rate code 0, so that 1 bt is 8 HCLK cycles. -/
def hearing (w : Option Parcel) : State := { inAct (.listening w) with
  cfg := { base.cfg with tickdiv := 7, linkcfg := { base.cfg.linkcfg with rate := 0 } } }

/-- A line for each reception result, from the end of the lead mark on: nothing, a mark-class pulse, a tail mark at once,
a header with length 33, a parcel whose first bit is inverted, a parcel with source 0 and one broken in form only, a call
to this controller, to another node and to all, and an answer. -/
theorem witness_ReceptionCountedAndDisposed :
    let heard := fun l : List LineItem => receive (hearing none).bt l
    let cell := fun b : Bool => [LineItem.low (dataLow 8 b), .high (8 - dataLow 8 b)]
    (hearing none).link.act = .listening none ∧ (hearing (some own)).link.act = .listening (some own) ∧
    heard [] = none ∧ heard [.low 14] = some .markFault ∧ heard [.low 12] = some .overrun ∧ heard [.high 13] = some .overrun ∧
    heard ((fieldBits (33#26)).flatMap cell) = some .overlength ∧
    heard ((message.bits.modifyHead not).flatMap cell ++ [.low 12]) = some .badCheck ∧
    heard (({ message with source := 0 } : Parcel).wire 8) = some (.malformed { message with source := 0 }) ∧
    heard (({ message with kind := 3 } : Parcel).wire 8) = some (.malformed { message with kind := 3 }) ∧
    heard (message.wire 8) = some (.good message) ∧ message.dest = base.cfg.ident.primary ∧
    heard (({ message with dest := 9 } : Parcel).wire 8) = some (.good { message with dest := 9 }) ∧
    heard (({ message with dest := 0 } : Parcel).wire 8) = some (.good { message with dest := 0 }) ∧
    heard (ack.wire 8) = some (.good ack) := by decide +kernel

/-- A HOLD that sets a timer on the edge of its expiry leaves it running (R120, R132). -/
theorem test_hold_on_the_edge_of_an_expiry :
    after (exec (.parcelReceived ((⟨0, 0, 5, 9, 0, [0x04, 0, 1]⟩ : Parcel).wire 8))
      { hearing none with hold := { base.hold with timers := base.hold.timers.set 2 (some ⟨0, 8⟩) } })
      (fun t => t.hold.timers[2] = some ⟨32, 8⟩ ∧ dueRows t = []) = true := by decide +kernel

theorem witness_HoldAndRouseAtIntake :
    (⟨0, 0, 5, 9, 0, [0x0F, 0, 0]⟩ : Parcel).kind = 5 ∧
    ((⟨0, 0, 6, 9, 0, []⟩ : Parcel).kind = 6 ∧ (⟨0, 0, 6, 9, 0, []⟩ : Parcel).dest = 0) ∧
    ((⟨0, 7, 6, 9, 1, []⟩ : Parcel).kind = 6 ∧ (⟨0, 7, 6, 9, 1, []⟩ : Parcel).dest ≠ 0) := by decide

/-- Dozing, with a wake filter for any PUT to the primary identity in place 3. -/
def dozing : State := { base with
  doze := { base.doze with state := .dozing }
  cfg := { base.cfg with filters := base.cfg.filters.set 3 { valid := true, idset := 1 } } }
theorem witness_IntakeOffOrDozing :
    message.kind.toNat ≤ 4 ∧ (⟨0, 7, 4, 9, 1, []⟩ : Parcel).kind.toNat ≤ 4 ∧
    ({ base with sctl := { base.sctl with intakeEn := false } } : State).sctl.intakeEn = false ∧
    (dozing.sctl.intakeEn = true ∧ dozing.doze.state = .dozing) ∧
    (message.kind = 0 ∧ message.dest = dozing.cfg.ident.primary ∧
      let f := dozing.cfg.filters[3]
      f.valid = true ∧ f.source = 0 ∧ f.idset.getLsbD 0 = true ∧ f.mask = 0 ∧ f.pattern = 0) ∧
    (∀ first : Byte, first &&& (0 : Byte) = (0 : Byte) &&& (0 : Byte)) ∧
    (∀ j : Fin 4, j < 3 → dozing.cfg.filters[j].valid = false) ∧
    ∀ j : Fin 4, dozing.cfg.filters[j].idset.getLsbD 2 = false := by
  refine ⟨by decide, by decide, by decide, by decide, by decide +kernel, fun _ => by simp, by decide +kernel,
    by decide +kernel⟩
theorem witness_ClaimStep :
    intakeOpen base ∧ intakeOpen claimed ∧ message.dest ≠ 0 ∧
    (⟨0, 7, 3, 5, 1, []⟩ : Parcel).kind = 3 ∧ (⟨0, 7, 4, 5, 1, []⟩ : Parcel).kind = 4 ∧ message.kind.toNat ≤ 2 ∧
    (⟨0, 7, 2, 5, 1, [0, 0, 0, 0, 0]⟩ : Parcel).kind.toNat ≤ 2 ∧
    base.cfg.ident.claimEn = true ∧ ({ base.cfg.ident with claimEn := false } : Ident).claimEn = false ∧
    base.sess.holder = none ∧ claimed.sess.holder = some message.source ∧
    claimed.sess.holder ≠ some ({ message with source := 6 } : Parcel).source :=
  ⟨⟨rfl, by decide⟩, ⟨rfl, by decide⟩, by decide⟩

/-- The record of source 30 is a SWAP of tag 15, and that of source 1 a PUT of tag 1. -/
def recorded : State := { base with intake := { base.intake with
  repeats := (base.intake.repeats.set 29 (some ⟨15, .swap, 7⟩)).set 0 (some ⟨1, .put, 0⟩) } }
theorem witness_RepeatsAnsweredFromRecord :
    let swap : Parcel := ⟨0, 7, 2, 30, 15, [0, 0, 0, 0, 1]⟩
    let put : Parcel := ⟨0, 7, 0, 1, 1, []⟩
    (recorded.sctl.intakeEn = true ∧ recorded.doze.state ≠ .dozing ∧ recorded.sess.holder = none ∧
      recorded.cfg.ident.repeatEn = true) ∧
    (swap.dest ≠ 0 ∧ swap.tag ≠ 0 ∧ swap.source.toNat = (29 : Fin 30).val + 1 ∧
      recorded.intake.repeats[29] = some ⟨15, .swap, 7⟩ ∧ swap.kind = 2) ∧
    (put.dest ≠ 0 ∧ put.tag ≠ 0 ∧ put.source.toNat = (0 : Fin 30).val + 1 ∧
      recorded.intake.repeats[0] = some ⟨1, .put, 0⟩ ∧ put.kind = 0) := by decide +kernel

/-- Entries 56 to 63 may be read, and entry 63 written. -/
def readable : State := { base with board := Vector.ofFn fun i : Fin 64 =>
  { remoteRead := 56 ≤ i.val, remoteWrite := i.val = 63 } }
theorem witness_FetchAndSwapServed :
    let fetch := fun (start n : Byte) => (⟨0, 7, 1, 5, 1, [start, n]⟩ : Parcel)
    let swap := fun start : Byte => (⟨0, 7, 2, 5, 1, [start, 0, 0, 0, 1]⟩ : Parcel)
    (readable.sctl.intakeEn = true ∧ readable.doze.state ≠ .dozing ∧ readable.sess.holder = none) ∧
    (readable.repeatRecord (fetch 56 8) = none ∧ readable.repeatRecord (swap 63) = none) ∧
    ((fetch 0 0).payload.getD 1 0).toNat = 0 ∧ 8 < ((fetch 0 9).payload.getD 1 0).toNat ∧ 64 < 57 + 8 ∧
    (56 + 8 ≤ 64 ∧ ∀ i : Fin 64, 56 ≤ i.val → i.val < 56 + 8 → readable.board[i].remoteRead = true) ∧
    ¬ (∀ i : Fin 64, 55 ≤ i.val → i.val < 55 + 8 → readable.board[i].remoteRead = true) ∧
    64 ≤ ((swap 64).payload.getD 0 0).toNat ∧ (63 : Fin 64).val = ((swap 63).payload.getD 0 0).toNat ∧
    readable.board[63].remoteWrite = true ∧ readable.board[62].remoteWrite = false := by decide +kernel

/-- Inbox 0 has quota 0 and so is full, inbox 1 has room; route 15 refuses PUTs of source 5 and class 2 to the primary. -/
def routed : State := { base with cfg := { base.cfg with
  quota := #v[0, 10, 10, 10]
  routes := base.cfg.routes.set 15
    { valid := true, source := 5, idset := 1, classes := 4, inbox := 1, action := .refuse } } }
theorem witness_PutsRouted :
    (routed.sctl.intakeEn = true ∧ routed.doze.state ≠ .dozing) ∧ message.kind = 0 ∧
    ({ message with dest := 0 } : Parcel).dest = 0 ∧ (routed.sess.holder = none ∧ routed.repeatRecord message = none) ∧
    (let r := routed.cfg.routes[15]
     r.valid = true ∧ r.source = message.source ∧ r.idset.getLsbD 0 = true ∧ r.classes.getLsbD message.cls.toNat = true ∧
      r.action = .refuse) ∧
    (∀ j : Fin 16, j < 15 → routed.cfg.routes[j].valid = false) ∧
    (base.cfg.routecfg.action = .deliver ∧ base.cfg.routecfg.inbox = 0) ∧
    routed.cfg.quota[0].toNat ≤ routed.intake.inboxes[0].length ∧
    ¬ routed.cfg.quota[1].toNat ≤ routed.intake.inboxes[1].length ∧
    ({ action := .discard } : RouteCfg).action = .discard := by decide +kernel

theorem witness_ExpiriesTakeEffect :
    (∃ e m, 1 ≤ 1 ∧ 1 ≤ claimed.sess.stack.length ∧
      claimed.sess.stack[claimed.sess.stack.length - 1]? = some e ∧ e.mirror = some m) ∧
    (∀ e ∈ base.sess.stack[base.sess.stack.length - 6]?, 1 ≤ 6 → 6 ≤ base.sess.stack.length → e.mirror = none) ∧
    (base.link.act ≠ .off ∧ base.link.act ≠ .stuck ∧ base.link.line.low = none ∧ base.cfg.linkcfg.stuckLimit ≠ 0) ∧
    claimed.inReset = false :=
  ⟨⟨_, _, by decide, by decide, rfl, rfl⟩, by decide⟩

/-- `chained` with the first call's cancellation waiting as a command. -/
def steady : State := { chained with pending := [.cancel 0] }
theorem witness_StepKeepsInterruptAndConfiguration :
    (∃ t, step base = .next t) ∧ IntFollows base ∧ ConfigLegal base ∧ UnnamedBitsClear base :=
  ⟨⟨_, rfl⟩, by unfold IntFollows; decide +kernel,
    by constructor <;> decide +kernel, by constructor <;> decide +kernel⟩
theorem witness_StepKeepsInboxesAndRepeats :
    (∃ t, step filled = .next t) ∧ InboxesFit filled ∧ RepeatsLegal recorded ∧ ∃ t, step recorded = .next t := by
  refine ⟨⟨_, rfl⟩, ?_, ?_, ⟨_, rfl⟩⟩
  · intro n
    have h : ∀ n : Fin 4, filled.occupancy n ≤ filled.cfg.quota[n].toNat ∧
        ∀ r ∈ filled.intake.inboxes[n], r.payload.length ≤ 32 ∧ r.source ≠ 0 ∧ r.source ≠ 31 := by decide +kernel
    exact h n
  · intro i r
    have h : ∀ i : Fin 30, recorded.intake.repeats[i] = none ∨ recorded.intake.repeats[i] = some ⟨15, .swap, 7⟩ ∨
        recorded.intake.repeats[i] = some ⟨1, .put, 0⟩ := by decide +kernel
    rcases h i with h | h | h <;> rw [h] <;> intro e <;> cases e <;> decide
theorem witness_StepKeepsHoldClaimAndDoze :
    (∃ t, step claimed = .next t) ∧ HoldSets claimed ∧ ClaimCoherent claimed ∧ DozeCoherent claimed :=
  ⟨⟨_, rfl⟩, ⟨by decide +kernel, by decide, by decide, by decide +kernel⟩, ⟨by decide, by decide⟩,
    ⟨by decide, by decide, by decide⟩⟩
theorem witness_StepKeepsQueues : (∃ t, step steady = .next t) ∧ QueuesCoherent steady :=
  ⟨⟨_, rfl⟩, ⟨⟨chained_queues.member, chained_queues.once, chained_queues.head, chained_queues.successor⟩,
    chained_queues.records, chained_queues.recordsOnce, chained_queues.free, chained_queues.outcome,
    chained_queues.current, chained_queues.underWay⟩⟩
theorem witness_StepKeepsSessions : (∃ t, step chained = .next t) ∧ QueuesCoherent chained ∧ SessionsCoherent chained :=
  ⟨⟨_, rfl⟩, chained_queues, chained_sessions⟩
theorem witness_StepKeepsTagsAndAttempts :
    (∃ t, step chained = .next t) ∧ QueuesCoherent chained ∧ TagsCoherent chained ∧ AttemptsBounded chained :=
  ⟨⟨_, rfl⟩, chained_queues, chained_tags, chained_attempts⟩

/-- `readable` with entry 63 staged. -/
def hidden : State := { readable with board := readable.board.set 63 { readable.board[63] with staged := 9, isStaged := true } }
theorem witness_StagedValuesInvisible :
    isBusEvent .leadMark = true ∧ hidden = { readable with board := hidden.board } ∧
    (∀ i : Fin 64, hidden.board[i] =
      { readable.board[i] with staged := hidden.board[i].staged, isStaged := hidden.board[i].isStaged }) ∧
    hidden.board[63].isStaged ≠ readable.board[63].isStaged ∧
    (∃ t₁ t₂, exec .leadMark hidden = .next t₁ ∧ exec .leadMark readable = .next t₂) :=
  ⟨rfl, rfl, by decide +kernel, by decide +kernel, ⟨_, _, rfl, rfl⟩⟩
theorem witness_OnlyTheseRowsChange :
    Instr.linkRestart.wellFormed = true ∧
    after (exec .linkRestart { base with link := { base.link with quarantine := true } })
      (fun t => t.link.quarantine = false) = true ∧
    after (exec (.publish 0x00013F) hidden) (fun t => t.board[63].committed ≠ hidden.board[63].committed) = true ∧
    after (exec .sessionDrop claimed) (fun t => t.sess.stack = []) = true ∧
    after (exec .breakClaim claimed) (fun t => t.sess.holder ≠ claimed.sess.holder) = true ∧
    (let swap : Parcel := ⟨0, 7, 2, 5, 1, [63, 0, 0, 0, 1]⟩
     let s : State := { hearing none with board := readable.board }
     receive s.bt (swap.wire 8) = some (.good swap) ∧
     after (exec (.parcelReceived (swap.wire 8)) s) (fun t => t.board[63].committed ≠ s.board[63].committed) = true) := by
  decide +kernel

/-- The states that the witnesses above name. -/
def witnesses : List State := [base, staged, crowded, full, chained, filled, claimed, free, recorded, readable, hidden,
  withSlot 0 put 1 [0] base, hearing none, hearing (some own), inAct .settling, inAct .stuck, inAct .pulse,
  inAct (.answering ack false), inAct (.answering ack true), inAct (.contending (.hold .release) own),
  inAct (.transmitting (.hold .manual) own), calling (.contending .call own), calling (.transmitting .call own),
  calling (.awaiting own)]
/-- RESET# and SLINE are high in them, and nothing has happened or is due on their edge. -/
theorem witness_running_states : ∀ s ∈ witnesses, s.inReset = false ∧ s.events.edgeBegun = false ∧ dueRows s = [] ∧
    s.link.line.low = none := by
  decide +kernel
/-- So a host access finds each of them as it is. -/
theorem witness_host_edges (s : State) (m : s ∈ witnesses) : s.inReset = false ∧ s = hostEdge s :=
  ⟨(witness_running_states s m).1, (hostEdge_of_high s (witness_running_states s m).2.2.1 (witness_running_states s m).2.2.2).symm⟩
/-- And so does a line event or an expiry, but for the note of the event. -/
theorem witness_line_edges (s : State) (m : s ∈ witnesses) :
    s.inReset = false ∧ begun s = lineEdge s ∧ begun s = timerEdge s :=
  ⟨(witness_running_states s m).1, by simp [lineEdge, (witness_running_states s m).2.1],
    by rw [timerEdge, lineOver_of_high s (witness_running_states s m).2.2.2]⟩

end Sys2Proof.Tests
end

section
/-! The bits of a parcel as a sequence (R7, R8): the numbers that bit sequences spell, the arbitration key (R9), and the
reception of a parcel that is sent alone (R2 to R4). -/

namespace Sys2Proof.StrandBus

open Sys2Proof.Machine Sys2Proof.Safety

/-! ## Numbers that bits spell -/

@[simp] theorem bitsNat_nil : bitsNat [] = 0 := rfl

theorem bitsNat_append (a b : List Bool) : bitsNat (a ++ b) = bitsNat a * 2 ^ b.length + bitsNat b := by
  have shift : ∀ (l : List Bool) (n : Nat),
      l.foldl (fun n b => 2 * n + b.toNat) n = n * 2 ^ l.length + bitsNat l := by
    intro l
    induction l with
    | nil => simp
    | cons c l ih =>
      intro n
      have here := ih (2 * n + c.toNat)
      have whole := ih (2 * 0 + c.toNat)
      simp only [List.foldl_cons, bitsNat, List.length_cons] at *
      rw [here, whole]
      ring
  rw [bitsNat, List.foldl_append, shift]
  rfl

theorem bitsNat_cons (c : Bool) (l : List Bool) : bitsNat (c :: l) = c.toNat * 2 ^ l.length + bitsNat l := by
  have := bitsNat_append [c] l
  simpa [bitsNat] using this

theorem bitsNat_lt (l : List Bool) : bitsNat l < 2 ^ l.length := by
  induction l with
  | nil => simp
  | cons c l ih =>
    rw [bitsNat_cons, List.length_cons, pow_succ]
    cases c <;> simp <;> omega

/-- Of two equally long sequences the one that spells the lower number has 0 at the first place where they differ. -/
theorem first_difference_of_bitsNat_lt :
    ∀ (a b : List Bool), a.length = b.length → bitsNat a < bitsNat b →
      ∃ i, i < a.length ∧ a.take i = b.take i ∧ a[i]? = some false ∧ b[i]? = some true
  | [], [], _, lt => by simp at lt
  | c :: a, d :: b, len, lt => by
    have len' : a.length = b.length := by simpa using len
    rw [bitsNat_cons, bitsNat_cons, len'] at lt
    have la := bitsNat_lt a
    have lb := bitsNat_lt b
    rw [len'] at la
    by_cases same : c = d
    · obtain ⟨i, lti, head, ai, bi⟩ := first_difference_of_bitsNat_lt a b len' (by subst same; omega)
      exact ⟨i + 1, by simpa using lti, by simp [same, head], by simpa using ai, by simpa using bi⟩
    · refine ⟨0, by simp, rfl, ?_⟩
      cases c <;> cases d <;> simp at same lt ⊢
      omega

/-! ## Fields -/

@[simp] theorem fieldBits_length {w : Nat} (v : BitVec w) : (fieldBits v).length = w := by simp [fieldBits]

/-- The first bit of a field is its most significant one (R7). -/
theorem fieldBits_succ {w : Nat} (v : BitVec (w + 1)) : fieldBits v = v.msb :: fieldBits (v.setWidth w) := by
  refine List.ext_getElem (by simp) fun i h _ => ?_
  cases i with
  | zero => simp [fieldBits, BitVec.msb]
  | succ i =>
    have lt : i < w := by simpa using h
    have pos : 0 < w := by omega
    simp [fieldBits, BitVec.getMsbD, lt, pos, Nat.sub_sub, Nat.add_comm 1 i]

/-- The bits of a field spell its value (R7). -/
@[simp] theorem bitsNat_fieldBits : ∀ {w : Nat} (v : BitVec w), bitsNat (fieldBits v) = v.toNat
  | 0, v => by simp [fieldBits, bitsNat, BitVec.of_length_zero]
  | w + 1, v => by
    rw [fieldBits_succ, bitsNat_cons, bitsNat_fieldBits, fieldBits_length, BitVec.toNat_setWidth]
    have top : v.msb = decide (2 ^ w ≤ v.toNat) := by simp [BitVec.msb_eq_decide]
    have lt := v.isLt
    rw [pow_succ] at lt
    by_cases h : 2 ^ w ≤ v.toNat
    · rw [top, decide_eq_true h, Nat.mod_eq_sub_mod h, Nat.mod_eq_of_lt (by omega)]
      simp; omega
    · rw [top, decide_eq_false h, Nat.mod_eq_of_lt (by omega)]
      simp

/-- A field at the head of a bit sequence is read back (R7). -/
@[simp] theorem fieldAt_fieldBits {w : Nat} (v : BitVec w) (l : List Bool) : fieldAt (fieldBits v ++ l) 0 w = v := by
  rw [fieldAt, List.drop_zero, List.take_left' (fieldBits_length v), bitsNat_fieldBits, BitVec.ofNat_toNat,
    BitVec.setWidth_eq]

/-- The fields before a field do not bear on it. -/
theorem fieldAt_append (a l : List Bool) (k w : Nat) (h : a.length ≤ k) :
    fieldAt (a ++ l) k w = fieldAt l (k - a.length) w := by
  rw [fieldAt, fieldAt, List.drop_append, List.drop_eq_nil_of_le h, List.nil_append]

theorem lengthField_eq (bs : List Bool) : lengthField bs = (fieldAt bs 20 6).toNat := by
  have short : ((bs.drop 20).take 6).length ≤ 6 := List.length_take_le ..
  have lt : bitsNat ((bs.drop 20).take 6) < 2 ^ 6 := (bitsNat_lt _).trans_le (Nat.pow_le_pow_right (by omega) short)
  rw [lengthField, fieldAt, BitVec.toNat_ofNat, Nat.mod_eq_of_lt lt]

/-! ## The bits of a parcel (R7, R8) -/

/-- The arbitration field: class, destination, kind and source (R9). -/
def arbitrationField (p : Parcel) : List Bool :=
  fieldBits p.cls ++ fieldBits p.dest ++ fieldBits p.kind ++ fieldBits p.source

@[simp] theorem arbitrationField_length (p : Parcel) : (arbitrationField p).length = Config.arbitrationBits := by
  simp [arbitrationField]

/-- A parcel's bits begin with its arbitration field (R7, R9). -/
theorem bits_eq_arbitrationField (p : Parcel) : ∃ rest, p.bits = arbitrationField p ++ rest :=
  ⟨fieldBits p.tag ++ (fieldBits (BitVec.ofNat 6 p.payload.length) ++ (p.payload.flatMap fieldBits ++
    fieldBits (crc p.bodyBits))), by
      rw [Parcel.bits]; simp only [Parcel.bodyBits, arbitrationField, List.append_assoc]⟩

/-- The arbitration key is the number that the arbitration field spells (R9). -/
theorem key_eq_bitsNat (p : Parcel) : p.key = bitsNat (arbitrationField p) := rfl

theorem key_eq (p : Parcel) :
    p.key = p.cls.toNat * 2 ^ 14 + p.dest.toNat * 2 ^ 9 + p.kind.toNat * 2 ^ 5 + p.source.toNat := by
  simp only [key_eq_bitsNat, arbitrationField, bitsNat_append, bitsNat_fieldBits, fieldBits_length]
  ring

@[simp] theorem payloadBits_length (l : List Byte) : (l.flatMap fieldBits).length = 8 * l.length := by
  induction l with
  | nil => rfl
  | cons b l ih => rw [List.flatMap_cons, List.length_append, fieldBits_length, ih, List.length_cons]; ring

theorem bodyBits_length (p : Parcel) : p.bodyBits.length = 26 + 8 * p.payload.length := by
  simp [Parcel.bodyBits]; omega

theorem bits_length (p : Parcel) : p.bits.length = 42 + 8 * p.payload.length := by
  simp [Parcel.bits, bodyBits_length]; omega

/-- The bytes of a payload are read back from their bits (R7). -/
theorem bytesOf_payloadBits (l : List Byte) (after : List Bool) :
    bytesOf l.length (l.flatMap fieldBits ++ after) = l := by
  induction l with
  | nil => rfl
  | cons b l ih =>
    rw [List.flatMap_cons, List.append_assoc, List.length_cons, bytesOf, fieldAt_fieldBits,
      List.drop_left' (fieldBits_length b), ih]

section
variable {p : Parcel} (small : p.payload.length ≤ 32)
include small

theorem lengthField_bits : lengthField p.bits = p.payload.length := by
  have lt : p.payload.length < 64 := by omega
  simp [lengthField_eq, Parcel.bits, Parcel.bodyBits, fieldAt_append, Nat.mod_eq_of_lt lt]

/-- A complete bit sequence spells the parcel that it was made from (R7). -/
theorem ofBits_bits : Parcel.ofBits p.bits = p := by
  have rest : p.bits.drop 26 = p.payload.flatMap fieldBits ++ fieldBits (crc p.bodyBits) := by
    rw [Parcel.bits, Parcel.bodyBits, List.append_assoc (_ ++ fieldBits (BitVec.ofNat 6 _)), List.drop_left' (by simp)]
  have bytes := bytesOf_payloadBits p.payload (fieldBits (crc p.bodyBits))
  rw [← rest] at bytes
  simp only [Parcel.ofBits, lengthField_bits small, bytes]
  simp [Parcel.bits, Parcel.bodyBits, fieldAt_append]

/-- The check of a complete parcel is the one that was sent, so its form alone decides (R8, R17). -/
theorem judge_bits : judge p.bits = if p.malformed then .malformed p else .good p := by
  have body : p.bits.take (p.bits.length - 16) = p.bodyBits := by
    rw [Parcel.bits, List.take_left' (by simp)]
  have check : fieldAt p.bits (p.bits.length - 16) 16 = crc p.bodyBits := by
    have place : p.bits.length - 16 = p.bodyBits.length := by simp [Parcel.bits]
    have := fieldAt_fieldBits (crc p.bodyBits) []
    rw [place, Parcel.bits, fieldAt_append _ _ _ _ le_rfl, Nat.sub_self]
    simpa using this
  simp only [judge, body, check, ofBits_bits small, ne_eq, not_true_eq_false, if_false]

/-- From the length field on every part of a parcel carries its length (R7). -/
theorem lengthField_of_append {bs rest : List Bool} (h : bs ++ rest = p.bits) (header : 26 ≤ bs.length) :
    lengthField bs = p.payload.length := by
  have part : (bs.drop 20).take 6 = ((bs ++ rest).drop 20).take 6 := by
    rw [List.drop_append_of_le_length (by omega), List.take_append_of_le_length (by simp; omega)]
  rw [← lengthField_bits small, ← h, lengthField, lengthField, part]

/-- The tail mark is due after the last bit and at no bit before it (R4, R7). -/
theorem tailDue_of_append {bs rest : List Bool} (h : bs ++ rest = p.bits) : tailDue bs = rest.isEmpty := by
  have len : bs.length + rest.length = 42 + 8 * p.payload.length := by
    rw [← bits_length, ← h, List.length_append]
  cases rest with
  | nil =>
    have last : bs.length = 42 + 8 * p.payload.length := by simpa using len
    have header : 26 ≤ bs.length := by omega
    simpa [tailDue, lengthField_of_append small h header, last] using last ▸ header
  | cons b rest =>
    have early : bs.length ≠ 42 + 8 * p.payload.length := by rw [List.length_cons] at len; omega
    by_cases header : 26 ≤ bs.length
    · simp [tailDue, lengthField_of_append small h header, early]
    · simp [tailDue, header]

end

/-! ## The line of a parcel that is sent alone (R2, R3) -/

theorem isSilence_of_le {bt c : Nat} (h : c ≤ bt) : isSilence bt c = false := by
  have short : ¬ quarters bt 6 < c := by unfold quarters; omega
  exact decide_eq_false short

section
variable {bt : Nat} (slow : 8 ≤ bt)
include slow

theorem classify_dataLow (b : Bool) : classify bt (dataLow bt b) = .data b := by
  cases b with
  | true =>
    have short : quarters bt 1 < quarters bt 2 := by unfold quarters; omega
    exact if_pos short
  | false =>
    have long : ¬ quarters bt 3 < quarters bt 2 := by unfold quarters; omega
    have short : quarters bt 3 < quarters bt 5 := by unfold quarters; omega
    exact (if_neg long).trans (if_pos short)

theorem classify_tailLow : classify bt (tailLow bt) = .tail := by
  have noOne : ¬ quarters bt 6 < quarters bt 2 := by unfold quarters; omega
  have noZero : ¬ quarters bt 6 < quarters bt 5 := by unfold quarters; omega
  have noMark : quarters bt 6 < quarters bt 7 := by unfold quarters; omega
  exact (if_neg noOne).trans ((if_neg noZero).trans (if_pos noMark))

/-- The receiver takes bit after bit of a parcel, and its tail mark ends the reception (R4). -/
theorem receiveFrom_cells {p : Parcel} (small : p.payload.length ≤ 32) (rest : List Bool) :
    ∀ bs : List Bool, bs ++ rest = p.bits →
      receiveFrom bt bs
        ((rest.flatMap fun b => [.low (dataLow bt b), .high (bt - dataLow bt b)]) ++ [.low (tailLow bt)]) =
        some (judge p.bits) := by
  induction rest with
  | nil =>
    intro bs h
    have due := tailDue_of_append small h
    rw [List.append_nil] at h
    subst h
    simp [receiveFrom, classify_tailLow slow, due]
  | cons b rest ih =>
    intro bs h
    have due := tailDue_of_append small h
    have next : (bs ++ [b]) ++ rest = p.bits := by simpa using h
    have fits : ¬ (bs.length + 1 = Config.headerBits ∧ Config.maxPayload < lengthField (bs ++ [b])) := by
      rintro ⟨header, long⟩
      rw [lengthField_of_append small next (by rw [List.length_append]; exact header.ge)] at long
      exact absurd small (Nat.not_le.mpr long)
    simp [receiveFrom, classify_dataLow slow, due, fits, isSilence_of_le, ih _ next]

end

/-- Settles O4: the receiver's state after each cell is the part of the parcel sent so far. -/
theorem parcelWireRoundTrip : Obligations.ParcelWireRoundTrip := by
  intro bt p slow small
  rw [receive, Parcel.wire, List.cons_append, receiveFrom, isSilence_of_le le_rfl, ← judge_bits small]
  exact receiveFrom_cells slow small p.bits [] rfl

/-- Settles O5: the key is the number that the arbitration field, the first 16 bits, spells. -/
theorem lowestKeyWinsContention : Obligations.LowestKeyWinsContention := by
  intro p q
  refine ⟨key_eq p, fun lower => ?_⟩
  rw [key_eq_bitsNat, key_eq_bitsNat] at lower
  obtain ⟨restP, bitsP⟩ := bits_eq_arbitrationField p
  obtain ⟨restQ, bitsQ⟩ := bits_eq_arbitrationField q
  obtain ⟨i, lt, head, pi, qi⟩ :=
    first_difference_of_bitsNat_lt (arbitrationField p) (arbitrationField q) (by simp) lower
  have lt' : i < (arbitrationField q).length := by simpa using lt
  refine ⟨i, by simpa using lt, ?_, ?_, ?_⟩
  · rw [bitsP, bitsQ, List.take_append_of_le_length lt.le, List.take_append_of_le_length lt'.le, head]
  · rw [bitsP, List.getElem?_append_left lt, pi]
  · rw [bitsQ, List.getElem?_append_left lt', qi]

end Sys2Proof.StrandBus
end

section
/-! Reports of the Link Engine to the Call Engine (R29, R52 to R54, R66). -/

namespace Sys2Proof.StrandBus

open Sys2Proof.Machine Sys2Proof.Safety

/-! ## The current call -/

/-- The current call's slot is `y` now, and its report sequence has ended (R49). -/
def endWith (n : SlotId) (y : Slot) (s : State) : State :=
  { s with calls := { s.calls with slots := s.calls.slots.set n y, current := none } }

/-- The age of the own call counts no more (R72). -/
def ageEnded (s : State) : State := { s with link := { s.link with callAge := none } }

section
variable {n : SlotId} {s : State} (h : s.calls.current = some n)
include h

/-- A lost contention counts as one loss, up to 255 (R52). -/
theorem callLost_eq :
    let y : Slot := { s.calls.slots[n] with losses := min 255 (s.calls.slots[n].losses + 1) }
    let u := ageEnded (endWith n y s)
    callLost s =
      if y.cancelPending then decideOutcome n .cancelled 0 u
      else if y.ceiling ≠ 0 ∧ y.ceiling.toNat ≤ y.losses then decideOutcome n .starved 0 u
      else u := by
  have losses (k : Nat) : (if k < 255 then k + 1 else 255) = min 255 (k + 1) := by split <;> omega
  simp only [callLost, h, updSlot_calls, Vector.getElem_set_self, Fin.getElem_fin, losses]
  rfl

/-- An accepted ACK restarts the mirrors it renews, and completes the call (R53, R73). -/
theorem attemptEnd_acked (own : Parcel) (bytes : List Byte) :
    attemptEnd own (.acked bytes) s = ageEnded (decideOutcome n .acked own.source
      (endWith n { s.calls.slots[n] with reason := none, answer := bytes } (restartMirrors own s))) := by
  have calls : (restartMirrors own s).calls = s.calls := by simp
  simp only [attemptEnd, h]
  rw [← calls]
  rfl

/-- Any other attempt end: the reason byte is that of this end; "sent" and an accepted NAK complete the call, and a
failure does so with a cancellation pending or no attempt left (R53, R54, R66). -/
theorem attemptEnd_of_not_acked (own : Parcel) (r : ExchangeResult) (other : ∀ bytes, r ≠ .acked bytes) :
    let x := s.calls.slots[n]
    let u := endWith n { x with reason := r.reason } s
    attemptEnd own r s = ageEnded (
      if !r.failure then decideOutcome n r.outcome own.source u
      else if x.cancelPending then decideOutcome n .cancelled own.source u
      else if x.attempts ≤ x.budget.toNat then startBackoff x.cls u
      else decideOutcome n r.outcome own.source u) := by
  cases r with
  | acked bytes => exact absurd rfl (other bytes)
  | _ =>
    simp only [attemptEnd, h, updSlot_calls, Vector.getElem_set_self, Fin.getElem_fin]
    rfl

end

/-- Settles O41, result by result. -/
theorem callEngineReports : Obligations.CallEngineReports := by
  intro n own s h
  refine ⟨callLost_eq h, attemptEnd_acked h own, fun r => ?_, ?_, ?_⟩
  · exact attemptEnd_of_not_acked h own (.nak r) (by simp)
  · exact attemptEnd_of_not_acked h own .sent (by simp)
  · rintro r reason o (⟨d, rfl, rfl, rfl⟩ | ⟨rfl, ⟨rfl, rfl⟩ | ⟨code, rfl, rfl⟩ | ⟨b, rfl, rfl⟩⟩)
    all_goals exact attemptEnd_of_not_acked h own _ (by simp)

end Sys2Proof.StrandBus
end

section
/-! The link with the line: lead marks, stray pulses, quiet gaps, contention (R26 to R28, R32, R39, R52, R57). -/

namespace Sys2Proof.StrandBus

open Sys2Proof.Machine Sys2Proof.Safety

section
variable (s : State)

/-! ## Line events by the link state in which they come -/

theorem onLeadMark_idle (a : s.link.act = .idle) (b : s.link.bus ≠ .ignoring) :
    onLeadMark s = markLow { s with link := { s.link with act := .listening none, bus := .busy } } := by
  simp only [onLeadMark, a, b, if_false]
  exact markSeen_eq _ (by simp) (by simp)
theorem onLeadMark_ignoring (a : s.link.act = .idle) (b : s.link.bus = .ignoring) : onLeadMark s = markLow s := by
  simp only [onLeadMark, a, b, if_true]
  exact markSeen_eq s (by simp [a]) (by simp [a])
theorem onLeadMark_settling (a : s.link.act = .settling) : onLeadMark s = markLow s := by
  simp only [onLeadMark, a]
  exact markSeen_eq s (by simp [a]) (by simp [a])
theorem onLeadMark_awaiting {p : Parcel} (a : s.link.act = .awaiting p) :
    onLeadMark s = markLow (setAct (.listening (some p)) s) := by
  simp only [onLeadMark, a]
  exact markSeen_eq _ (by simp) (by simp)
theorem onLeadMark_beforeAnswer {p : Parcel} (a : s.link.act = .answering p false) :
    onLeadMark s = markLow (setAct (.listening none) s) := by
  simp only [onLeadMark, a]
  exact markSeen_eq _ (by simp) (by simp)
theorem onLeadMark_pulse (a : s.link.act = .pulse) : onLeadMark s = markLow (setAct (.listening none) s) := by
  simp only [onLeadMark, a]
  exact markSeen_eq _ (by simp) (by simp)

theorem onStrayPulse_idle (a : s.link.act = .idle) : onStrayPulse false s =
    lineUp (toIdle (if s.link.bus = .ignoring then s.link.bus else .busy) s) := by
  simp only [onStrayPulse, a, rowHigh_eq]
  split <;> simp_all
theorem onStrayPulse_settling (a : s.link.act = .settling) : onStrayPulse false s = lineUp s := by
  simp [onStrayPulse, a, rowHigh_eq]
theorem onStrayPulse_awaiting {p : Parcel} (a : s.link.act = .awaiting p) : onStrayPulse false s = lineUp s := by
  simp [onStrayPulse, a, rowHigh_eq]
theorem onStrayPulse_beforeAnswer {p : Parcel} (a : s.link.act = .answering p false) :
    onStrayPulse false s = lineUp (toIdle .busy s) := by
  simp [onStrayPulse, a, rowHigh_eq]
theorem onStrayPulse_pulse (a : s.link.act = .pulse) : onStrayPulse false s = lineUp (toIdle .busy s) := by
  simp [onStrayPulse, a, rowHigh_eq]

theorem onAnswerStart_begins {p : Parcel} (a : s.link.act = .answering p false)
    (edge : s.link.line.low = none ∨ s.events.edgeFell = true) :
    onAnswerStart s = ownLead (setAct (.answering p true) s) := by
  have first : (s.link.line.low.isSome && !s.events.edgeFell) = false := by
    obtain e | e := edge <;> simp [e]
  simp only [onAnswerStart, a, first, Bool.false_eq_true, if_false]
  exact leadBegins_eq _ (by simp) (by simp)
/-- A falling edge of an earlier HCLK edge: the answer is given up (R39). -/
theorem onAnswerStart_late {p : Parcel} (a : s.link.act = .answering p false) (low : s.link.line.low ≠ none)
    (edge : s.events.edgeFell = false) : onAnswerStart s = setAct .pulse s := by
  have isLow : s.link.line.low.isSome = true := Option.isSome_iff_ne_none.mpr low
  simp [onAnswerStart, a, isLow, edge, dropAnswer]

theorem onQuietGapEnd_eq (a : s.link.act = .settling ∨ s.link.act = .idle) :
    onQuietGapEnd s = lineUp (toIdle .free s) := by
  obtain a | a := a <;> simp [onQuietGapEnd, a, rowHigh_eq]

theorem onLineHigh_eq (a : s.link.act = .stuck) : onLineHigh s = raise .lineBack { s with link := { s.link with
    act := .settling, bus := .ignoring, line := lineHigh s.link.line } } := by
  simp only [onLineHigh, a]
  rfl

theorem onContentionWon_hold {k : HoldKind} {p : Parcel} (a : s.link.act = .contending (.hold k) p) :
    onContentionWon s = lineUp (setAct (.transmitting (.hold k) p) s) := by
  simp only [onContentionWon, a, rowHigh_eq]
  rfl
/-- The parcel of the current call goes on with the call's tag (R57). -/
theorem wonParcel_call {n : SlotId} (c : s.calls.current = some n) (p : Parcel) :
    s.wonParcel .call p = { p with tag := s.calls.slots[n].tag.getD 0 } := by
  simp only [State.wonParcel, c]
/-- A call takes a tag at the first contention it wins, and keeps it (R52, R57). -/
theorem onContentionWon_call {p : Parcel} {n : SlotId} (a : s.link.act = .contending .call p)
    (c : s.calls.current = some n) :
    let x := s.calls.slots[n]
    let tag : Option (BitVec 4) := if x.dest = 0 then none else some (x.tag.getD (s.tagOf x.dest))
    onContentionWon s = lineUp { setAct (.transmitting .call { p with tag := tag.getD 0 }) s with
      calls := { s.calls with slots := s.calls.slots.set n { x with attempts := x.attempts + 1, tag := tag } } } := by
  intro x tag
  have won : callWon s = updSlot n (fun _ => { x with attempts := x.attempts + 1, tag := tag }) s := by
    simp only [callWon, c]
    rfl
  have takes : (callWon s).calls.slots[n].tag = tag := by simp [won]
  simp only [onContentionWon, a, rowHigh_eq]
  rw [wonParcel_call (callWon s) (by rw [won]; exact c), takes, won]
  rfl
theorem onArbitrationLoss_hold {k : HoldKind} {p : Parcel} (a : s.link.act = .contending (.hold k) p) :
    let loss := count .arbLosses s
    onArbitrationLoss s = lineUp { loss with link := { loss.link with act := .listening none, bus := .busy } } := by
  simp only [onArbitrationLoss, a, rowHigh_eq]
  rfl
theorem onArbitrationLoss_call {p : Parcel} (a : s.link.act = .contending .call p) :
    let lost := callLost (count .arbLosses s)
    onArbitrationLoss s = lineUp { lost with link := { lost.link with act := .listening none, bus := .busy } } := by
  simp only [onArbitrationLoss, a, rowHigh_eq]
  rfl

end

/-- Settles O38, clause by clause in the order of the statement. -/
theorem linkMovesWithTheLine : Obligations.LinkMovesWithTheLine := by
  intro now s high found
  subst found
  dsimp only
  rw [exec_leadMark now high, exec_strayPulse now high, exec_answerStart now high, exec_quietGapEnd now high,
    exec_lineHigh now high, exec_contentionWon now high, exec_arbitrationLoss now high]
  refine ⟨fun a b => ?_, fun a b => ?_, fun a => ⟨?_, ?_⟩, fun p a => ⟨?_, ?_⟩,
    fun p a => ⟨?_, fun e => ?_, fun l e => ?_, ?_⟩, fun a => ⟨?_, ?_⟩, fun a => ?_, fun a => ?_, fun a => ?_,
    fun k p a => ⟨?_, ?_⟩, fun p n a c => ⟨?_, ?_⟩⟩
  · rw [onLeadMark_idle _ a b]
  · rw [onLeadMark_ignoring _ a b]
  · rw [onLeadMark_settling _ a]
  · rw [onStrayPulse_settling _ a]
  · rw [onLeadMark_awaiting _ a]; rfl
  · rw [onStrayPulse_awaiting _ a]
  · rw [onLeadMark_beforeAnswer _ a]; rfl
  · rw [onAnswerStart_begins _ a e]; rfl
  · rw [onAnswerStart_late _ a l e]; rfl
  · rw [onStrayPulse_beforeAnswer _ a]; rfl
  · rw [onLeadMark_pulse _ a]; rfl
  · rw [onStrayPulse_pulse _ a]; rfl
  · rw [onStrayPulse_idle _ a]; rfl
  · rw [onQuietGapEnd_eq _ a]; rfl
  · rw [onLineHigh_eq _ a]
  · rw [onContentionWon_hold _ a]; rfl
  · rw [onArbitrationLoss_hold _ a]
  · rw [onContentionWon_call _ a c]; rfl
  · rw [onArbitrationLoss_call _ a]

end Sys2Proof.StrandBus
end

section
/-! The end of a reception: its count, the attempt that it ends, and what becomes of the parcel (R34, R36 to R38). -/

namespace Sys2Proof.StrandBus

open Sys2Proof.Machine Sys2Proof.Safety

theorem owns_iff (i : Ident) (d : BitVec 5) : i.owns d = true ↔ d ≠ 0 ∧ (d = i.primary ∨ d = i.aliasId) := by
  simp [Ident.owns]

theorem isAnswerKind_iff (k : BitVec 4) : isAnswerKind k = true ↔ k = 8 ∨ k = 9 ∨ k = 10 := by
  simp [isAnswerKind, or_assoc]

/-- Kinds of calls are no kinds of answers (R11). -/
theorem isAnswerKind_of_call {k : BitVec 4} (h : k.toNat ≤ 6) : isAnswerKind k = false := by
  rw [Bool.eq_false_iff, ne_eq, isAnswerKind_iff]
  rintro (rfl | rfl | rfl) <;> simp at h

/-! ## Disposal (R36 to R38). The attempt end before it leaves the identities as they were. -/

/-- Broken in form only, addressed to an own number, and not from one (R7, R38). -/
def BrokenInFormOnly (s : State) (p : Parcel) : Prop :=
  p.kind.toNat ≤ 6 ∧ s.cfg.ident.owns p.dest = true ∧ p.dest ≠ 31 ∧ p.source ≠ 0 ∧ p.source ≠ 31 ∧
    ¬ s.cfg.ident.owns p.source = true

section
variable {s t : State} (c : t.cfg = s.cfg) (w : Bool) {p : Parcel}
include c

theorem formOnly_iff : (t.formOnly p && t.answerable p) = true ↔ BrokenInFormOnly s p := by
  simp [State.formOnly, State.answerable, isCallKind, and_assoc, BrokenInFormOnly, c]

theorem dispose_formOnly (h : BrokenInFormOnly s p) :
    dispose w (.malformed p) t = (some (p.answer 9 [0x05]), t) := if_pos ((formOnly_iff c).mpr h)
theorem dispose_malformed (h : ¬ BrokenInFormOnly s p) : dispose w (.malformed p) t = (none, t) :=
  if_neg fun f => h ((formOnly_iff c).mp f)

/-- An answer that nothing waits for is unsolicited where it is addressed to the controller (R37). -/
theorem dispose_unsolicited (kind : isAnswerKind p.kind = true) (own : s.cfg.ident.owns p.dest = true) :
    dispose false (.good p) t = (none, raise .unsolicited t) := by
  simp only [dispose, kind, if_true, c, own]
  rfl
theorem dispose_answer (kind : isAnswerKind p.kind = true) (h : w = true ∨ ¬ s.cfg.ident.owns p.dest = true) :
    dispose w (.good p) t = (none, t) := by
  simp only [dispose, kind, if_true, c]
  obtain rfl | h := h
  · rfl
  · simp [h]

theorem dispose_foreign (kind : isAnswerKind p.kind = false) (zero : p.dest ≠ 0)
    (dest : ¬ s.cfg.ident.owns p.dest = true) : dispose w (.good p) t = (none, t) := by
  simp only [dispose, kind, Bool.false_eq_true, if_false, c, dest, zero, or_self]
/-- Intake decides on a good call; no answer goes to one of the controller's own numbers (R7, R37). -/
theorem dispose_call (kind : isAnswerKind p.kind = false) (dest : p.dest = 0 ∨ s.cfg.ident.owns p.dest = true) :
    dispose w (.good p) t = (match intake p t with
      | (none, u) => (none, u)
      | (some a, u) => if s.cfg.ident.owns p.source then (none, u) else (some (p.answer a.kind a.payload), u)) := by
  simp only [dispose, kind, Bool.false_eq_true, if_false, c, dest, if_true, State.answerable]
  rcases intake p t with ⟨_ | a, u⟩
  · rfl
  · cases own : s.cfg.ident.owns p.source <;> simp

end

/-! ## The end of a reception -/

/-- The attempt whose window parcel this is ends with the reception (R34). -/
def endAttempt (window : Option Parcel) (r : RxResult) (t : State) : State :=
  match window with
  | some own => endWindow own r t
  | none => t

@[simp] theorem endAttempt_cfg (window : Option Parcel) (r : RxResult) (t : State) :
    (endAttempt window r t).cfg = t.cfg := by
  cases window <;> simp [endAttempt]

section
variable {window : Option Parcel} {r : RxResult} {s t : State}

theorem receptionEnds_unanswered
    (d : dispose window.isSome r (endAttempt window r (countReception r s)) = (none, t)) :
    receptionEnds window r s = lineAfter r (toIdle r.busAfter t) := by
  cases window <;> simp only [receptionEnds, endAttempt] at d ⊢ <;> rw [d]

theorem receptionEnds_answered {a : Parcel}
    (d : dispose window.isSome r (endAttempt window r (countReception r s)) = (some a, t)) :
    receptionEnds window r s =
      lineAfter r { t with link := { t.link with act := .answering a false, bus := .busy } } := by
  cases window <;> simp only [receptionEnds, endAttempt] at d ⊢ <;> rw [d]

theorem lineAfter_of_ne (h : r ≠ .markFault) : lineAfter r t = lineUp t := by
  cases r with
  | markFault => exact absurd rfl h
  | _ => exact rowHigh_eq t

theorem onParcel_of_result {items : List LineItem} (a : s.link.act = .listening window)
    (rx : receive s.bt items = some r) : onParcel items s = receptionEnds window r s := by
  simp only [onParcel, a, rx]

theorem onParcel_of_unfinished {items : List LineItem} (a : s.link.act = .listening window)
    (rx : receive s.bt items = none) : onParcel items s = s := by
  simp only [onParcel, a, rx]

end

section
variable {window : Option Parcel} {items : List LineItem} {s : State} (a : s.link.act = .listening window)
include a

theorem onParcel_markFault (rx : receive s.bt items = some .markFault) :
    onParcel items s = markLow (toIdle .ignoring (endAttempt window .markFault (count .markFaults s))) := by
  rw [onParcel_of_result a rx, receptionEnds_unanswered rfl]
  exact markSeen_eq _ (by simp) (by simp)

/-- A parcel that is neither complete nor checked is discarded (R36, R38). -/
theorem onParcel_discarded {r : RxResult} (rx : receive s.bt items = some r)
    (kind : r = .overrun ∨ r = .overlength ∨ r = .badCheck) :
    onParcel items s = unanswered r.busAfter (endAttempt window r (countReception r s)) := by
  obtain rfl | rfl | rfl := kind
  all_goals
    rw [onParcel_of_result a rx, receptionEnds_unanswered rfl, lineAfter_of_ne (by simp)]
    rfl

variable {p : Parcel}

theorem onParcel_unanswered {r : RxResult} {t : State} (rx : receive s.bt items = some r)
    (whole : r = .good p ∨ r = .malformed p)
    (d : dispose window.isSome r (endAttempt window r (countReception r s)) = (none, t)) :
    onParcel items s = unanswered .busy t := by
  rw [onParcel_of_result a rx, receptionEnds_unanswered d]
  obtain rfl | rfl := whole <;> exact lineAfter_of_ne (by simp)

theorem onParcel_answered {r : RxResult} {t : State} {kind : BitVec 4} {payload : List Byte}
    (rx : receive s.bt items = some r) (whole : r = .good p ∨ r = .malformed p)
    (d : dispose window.isSome r (endAttempt window r (countReception r s)) = (some (p.answer kind payload), t)) :
    onParcel items s = answered p kind payload t := by
  rw [onParcel_of_result a rx, receptionEnds_answered d]
  obtain rfl | rfl := whole <;> exact lineAfter_of_ne (by simp)

/-- A good call goes to Intake after the attempt end (R37, log 15). -/
theorem onParcel_call (rx : receive s.bt items = some (.good p)) (kind : isAnswerKind p.kind = false)
    (dest : p.dest = 0 ∨ s.cfg.ident.owns p.dest = true) :
    onParcel items s = (match intake p (endAttempt window (.good p) (count .rxParcels s)) with
      | (none, t) => unanswered .busy t
      | (some b, t) => if s.cfg.ident.owns p.source then unanswered .busy t else answered p b.kind b.payload t) := by
  have same : (endAttempt window (.good p) (count .rxParcels s)).cfg = s.cfg := by simp
  have d := dispose_call same window.isSome kind dest
  revert d
  rcases intake p (endAttempt window (.good p) (count .rxParcels s)) with ⟨_ | b, t⟩ <;> dsimp only
  · exact onParcel_unanswered a rx (.inl rfl)
  · by_cases own : s.cfg.ident.owns p.source = true
    · rw [if_pos own, if_pos own]
      exact onParcel_unanswered a rx (.inl rfl)
    · rw [if_neg own, if_neg own]
      exact onParcel_answered a rx (.inl rfl)

end

/-- Settles O44: each clause is the disposal that its conditions name, after the count and the attempt end. -/
theorem receptionCountedAndDisposed : Obligations.ReceptionCountedAndDisposed := by
  intro items window now s high found a
  subst found
  dsimp only
  rw [exec_parcelReceived now high]
  generalize lineEdge now = s at a
  simp only [← owns_iff]
  refine ⟨fun rx => ?_, fun rx => ?_, fun rx => ?_, fun rx => ?_, fun rx => ?_, fun p =>
    ⟨fun form rx => ?_, fun form rx => ?_, fun kind zero foreign rx => ?_, fun kind dest rx => ?_, fun kind =>
      ⟨fun none own rx => ?_, fun other rx => ?_⟩⟩⟩
  · rw [onParcel_of_unfinished a rx]
  · rw [onParcel_markFault a rx]; rfl
  · rw [onParcel_discarded a rx (by simp)]; rfl
  · rw [onParcel_discarded a rx (by simp)]; rfl
  · rw [onParcel_discarded a rx (by simp)]; rfl
  · rw [onParcel_answered a rx (.inr rfl) (dispose_formOnly (by simp) _ form)]; rfl
  · rw [onParcel_unanswered a rx (.inr rfl) (dispose_malformed (by simp) _ form)]; rfl
  · rw [onParcel_unanswered a rx (.inl rfl) (dispose_foreign (by simp) _ (isAnswerKind_of_call kind) zero foreign)]; rfl
  · rw [onParcel_call a rx (isAnswerKind_of_call kind) dest]; rfl
  · subst none
    rw [onParcel_unanswered a rx (.inl rfl) (dispose_unsolicited (by simp) ((isAnswerKind_iff _).mpr kind) own)]; rfl
  · have solicited : window.isSome = true ∨ ¬ s.cfg.ident.owns p.dest = true :=
      other.imp_left Option.isSome_iff_ne_none.mpr
    rw [onParcel_unanswered a rx (.inl rfl) (dispose_answer (by simp) _ ((isAnswerKind_iff _).mpr kind) solicited)]; rfl

end Sys2Proof.StrandBus
end

section
/-! Selection: the candidates in their order, the parcel that each sends, and why the loop's bound is never met (R49,
R51, logs 18 and 32). -/

namespace Sys2Proof.StrandBus

open Sys2Proof.Machine Sys2Proof.Safety

/-! ## The candidates (R49) -/

/-- Going through the classes finds what the lowest-numbered class with something has. -/
theorem findSome?_classes {α : Type} (f : Fin 4 → Option α) (x : α) :
    classes.findSome? f = some x ↔ ∃ c, f c = some x ∧ ∀ d, d < c → f d = none := by
  have sorted : classes.Pairwise (· < ·) := by decide
  have all : ∀ c, c ∈ classes := by decide
  constructor
  · intro found
    obtain ⟨before, c, after, split, here, none⟩ := List.findSome?_eq_some_iff.mp found
    refine ⟨c, here, fun d lt => none d ?_⟩
    rw [split, List.pairwise_append, List.pairwise_cons] at sorted
    have place := all d
    rw [split, List.mem_append, List.mem_cons] at place
    obtain early | rfl | late := place
    · exact early
    · exact absurd lt (lt_irrefl d)
    · exact absurd (sorted.2.1.1 d late) lt.asymm
  · rintro ⟨c, here, none⟩
    obtain ⟨before, after, split⟩ := List.append_of_mem (all c)
    rw [split, List.pairwise_append] at sorted
    exact List.findSome?_eq_some_iff.mpr
      ⟨before, c, after, split, here, fun d early => none d (sorted.2.2 d early c List.mem_cons_self)⟩

section
variable (s : State)

/-- The head of this class queue, and eligible. -/
def EligibleHead (c : Fin 4) (n : SlotId) : Prop := s.calls.queues[c].head? = some n ∧ s.eligible n = true

/-- The chain successor, and eligible. -/
def EligibleSuccessor (n : SlotId) : Prop := s.calls.successor = some n ∧ s.eligible n = true

/-- The call that a selection takes: candidates 4 and 5 of R49. -/
def FirstCall (n : SlotId) : Prop :=
  EligibleSuccessor s n ∨ ((∀ m, ¬ EligibleSuccessor s m) ∧
    ∃ c, EligibleHead s c n ∧ ∀ d, d < c → ∀ m, ¬ EligibleHead s d m)

theorem queueCandidate_iff (n : SlotId) : s.queueCandidate = some n ↔
    ∃ c, EligibleHead s c n ∧ ∀ d, d < c → ∀ m, ¬ EligibleHead s d m := by
  simp only [State.queueCandidate, findSome?_classes, Option.filter_eq_some_iff, Option.filter_eq_none_iff,
    EligibleHead, not_and]

theorem callCandidate_iff (n : SlotId) : s.callCandidate = some n ↔ FirstCall s n := by
  unfold State.callCandidate FirstCall EligibleSuccessor
  rw [← queueCandidate_iff]
  cases e : s.calls.successor.filter s.eligible with
  | none =>
    have nobody : ∀ m, ¬ (s.calls.successor = some m ∧ s.eligible m = true) := by
      simpa [Option.filter_eq_none_iff] using e
    simp [nobody]
  | some m =>
    obtain ⟨isM, able⟩ := Option.filter_eq_some_iff.mp e
    constructor
    · rintro ⟨⟩
      exact .inl ⟨isM, able⟩
    · rintro (⟨isN, _⟩ | ⟨nobody, _⟩)
      · exact isM.symm.trans isN
      · exact absurd ⟨isM, able⟩ (nobody m)

theorem holdCandidate_assertion (a : s.hold.pendAssert ≠ 0) : s.holdCandidate = some .assertion := if_pos a
theorem holdCandidate_release (a : s.hold.pendAssert = 0) (r : s.hold.pendRelease ≠ 0) :
    s.holdCandidate = some .release := (if_neg (not_not.mpr a)).trans (if_pos r)
theorem holdCandidate_manual (a : s.hold.pendAssert = 0) (r : s.hold.pendRelease = 0)
    (m : s.hold.manual.isSome = true) : s.holdCandidate = some .manual := by simp [State.holdCandidate, a, r, m]
theorem holdCandidate_none (a : s.hold.pendAssert = 0) (r : s.hold.pendRelease = 0) (m : s.hold.manual = none) :
    s.holdCandidate = none := by simp [State.holdCandidate, a, r, m]

/-- Beginning to contend is an own lead mark on a bus that is free no more (R27). -/
theorem beginContention_eq (o : Owner) (p : Parcel) :
    beginContention o p s = ownLead { s with link := { s.link with act := .contending o p, bus := .busy } } :=
  leadBegins_eq _ (by simp) (by simp)

/-- The HOLD parcel of a request with this mask and time (R124). -/
theorem holdParcel_eq {k : HoldKind} {mask : BitVec 4} {time : BitVec 16} (r : s.holdRequest k = (mask, time)) :
    s.holdParcel k =
      ⟨0, 0, 5, s.cfg.ident.primary, 0, [mask.setWidth 8, time.extractLsb' 8 8, time.extractLsb' 0 8]⟩ := by
  have wide : ∀ m : BitVec 4, (0#4 ++ m : BitVec 8) = m.setWidth 8 := by decide
  simp only [State.holdParcel, r, wide]

/-- A call's lead mark (R52, R71). -/
theorem startCall_eq (n : SlotId) :
    let x := s.calls.slots[n]
    startCall n s = ownLead { s with
      link := { s.link with act := .contending .call (s.callParcel n), bus := .busy }
      calls := { s.calls with slots := s.calls.slots.set n { x with state := .active }, current := some n }
      sess := { s.sess with gate := if x.kind = 3 ∨ x.kind = 4 then some n else s.sess.gate } } := by
  simp only [startCall, beginContention_eq]
  rfl

theorem callParcel_eq (n : SlotId) :
    let x := s.calls.slots[n]
    let source : BitVec 5 := if x.kind = 4 then (s.sess.stack.head?.map SessEntry.identity).getD 0
      else if x.idsel then s.cfg.ident.aliasId else s.cfg.ident.primary
    s.callParcel n = ⟨BitVec.ofFin x.cls, x.dest, x.kind, source, x.tag.getD 0, x.payload⟩ := by
  have cls (c : Fin 4) : BitVec.ofNat 2 c.val = BitVec.ofFin c := BitVec.eq_of_toNat_eq (by simp)
  simp only [State.callParcel, cls]
  rfl
end

/-! ## Each turn of the loop completes an open call -/

/-- Every call in a class queue is QUEUED or ACTIVE, stands in the queue of its class, and once (R48). -/
def QueuedAreOpen (s : State) : Prop :=
  ∀ c : Fin 4, s.calls.queues[c].Nodup ∧
    ∀ n ∈ s.calls.queues[c], s.calls.slots[n].open = true ∧ s.calls.slots[n].cls = c

/-- How many calls lack a final outcome. -/
def openCalls (s : State) : Nat := (Finset.univ.filter fun n : SlotId => s.calls.slots[n].open = true).card

theorem openCalls_le (s : State) : openCalls s ≤ 24 :=
  (Finset.card_filter_le ..).trans (by simp)

theorem queuedAreOpen_of_coherent {s : State} (q : QueuesCoherent s) : QueuedAreOpen s := fun c =>
  ⟨q.once c, fun n m => (q.member n c).mp m⟩

section
variable (s : State) (n : SlotId) (o : CallOutcome) (source : BitVec 5)

theorem closeCall_slots (m : SlotId) : (closeCall n o source s).calls.slots[m] =
    if m = n then { s.calls.slots[n] with state := .done, outcome := some o, cancelPending := false }
    else s.calls.slots[m] := by
  rw [(closeCall_spec s n o source).1]
  by_cases h : m = n
  · subst h; simp
  · have other : n.val ≠ m.val := fun e => h (Fin.ext e.symm)
    simp [h, Vector.getElem_set_ne, other]

theorem closeCall_open (m : SlotId) :
    (closeCall n o source s).calls.slots[m].open = true ↔ m ≠ n ∧ s.calls.slots[m].open = true := by
  rw [closeCall_slots]
  split <;> simp_all [Slot.open]

theorem openCalls_closeCall_le : openCalls (closeCall n o source s) ≤ openCalls s :=
  Finset.card_le_card (Finset.monotone_filter_right _ fun m _ h => ((closeCall_open s n o source m).mp h).2)

theorem openCalls_closeCall_lt (h : s.calls.slots[n].open = true) :
    openCalls (closeCall n o source s) < openCalls s :=
  Finset.card_lt_card <|
    (Finset.ssubset_iff_of_subset
      (Finset.monotone_filter_right _ fun m _ h => ((closeCall_open s n o source m).mp h).2)).mpr
      ⟨n, Finset.mem_filter.mpr ⟨Finset.mem_univ n, h⟩, fun still =>
        ((closeCall_open s n o source n).mp (Finset.mem_filter.mp still).2).1 rfl⟩

theorem closeCall_queues (c : Fin 4) : (closeCall n o source s).calls.queues[c] =
    if s.calls.slots[n].cls = c then s.calls.queues[c].erase n else s.calls.queues[c] := by
  rw [(closeCall_spec s n o source).1]
  by_cases h : s.calls.slots[n].cls = c
  · subst h; simp
  · rw [if_neg h]
    exact Vector.getElem_set_ne (Fin.isLt _) (Fin.isLt _) fun e => h (Fin.ext e)

theorem queuedAreOpen_closeCall {s : State} (q : QueuedAreOpen s) : QueuedAreOpen (closeCall n o source s) := by
  intro c
  obtain ⟨once, member⟩ := q c
  rw [closeCall_queues]
  split
  · refine ⟨once.erase n, fun m inQueue => ?_⟩
    obtain ⟨other, before⟩ := once.mem_erase_iff.mp inQueue
    rw [closeCall_slots, if_neg other]
    exact member m before
  · rename_i elsewhere
    refine ⟨once, fun m inQueue => ?_⟩
    have other : m ≠ n := fun e => elsewhere (e ▸ (member m inQueue).2)
    rw [closeCall_slots, if_neg other]
    exact member m inQueue

/-- A broken chain completes more calls, and opens none (R69). -/
theorem closeChain_keeps (fuel : Nat) : ∀ (n : SlotId) (o : CallOutcome) (source : BitVec 5) (s : State),
    QueuedAreOpen s → QueuedAreOpen (closeChain fuel n o source s) ∧
      openCalls (closeChain fuel n o source s) ≤ openCalls s := by
  induction fuel with
  | zero => exact fun n o source s q => ⟨q, le_rfl⟩
  | succ fuel ih =>
    intro n o source s q
    have one := queuedAreOpen_closeCall n o source q
    have fewer := openCalls_closeCall_le s n o source
    unfold closeChain
    dsimp only
    split
    · split
      · rename_i m _
        obtain ⟨rest, restFewer⟩ := ih m .chainBroken 0 _ one
        exact ⟨rest, restFewer.trans fewer⟩
      · exact ⟨one, fewer⟩
    · exact ⟨one, fewer⟩

theorem openCalls_decideOutcome_lt {s : State} (q : QueuedAreOpen s) (h : s.calls.slots[n].open = true) :
    openCalls (decideOutcome n o source s) < openCalls s := by
  have one := queuedAreOpen_closeCall n o source q
  have fewer := openCalls_closeCall_lt s n o source h
  rw [decideOutcome, closeChain]
  split
  · split
    · exact (closeChain_keeps _ _ _ _ _ one).2.trans_lt fewer
    · exact fewer
  · exact fewer

end

section
variable {s : State} {n : SlotId}

/-- The call that a selection takes is the head of its class queue (R49, R50). -/
theorem FirstCall.head (first : FirstCall s n) : s.calls.queues[s.calls.slots[n].cls].head? = some n := by
  have able : s.eligible n = true := by
    obtain ⟨_, able⟩ | ⟨_, _, ⟨_, able⟩, _⟩ := first <;> exact able
  simp only [State.eligible, Bool.and_eq_true, decide_eq_true_eq] at able
  simp only [and_assoc] at able
  exact able.1

/-- A start check completes the call, so that one open call less is left (R51). -/
theorem openCalls_failStart_lt (q : QueuedAreOpen s) (first : FirstCall s n) (o : CallOutcome) :
    QueuedAreOpen (failStart n o s) ∧ openCalls (failStart n o s) < openCalls s := by
  have same : (failStart n o s).calls = (decideOutcome n o 0 s).calls := by simp [failStart]
  have isOpen : s.calls.slots[n].open = true := ((q _).2 n (List.mem_of_mem_head? first.head)).1
  simp only [QueuedAreOpen, openCalls, same]
  exact ⟨(closeChain_keeps _ n o 0 s q).1, openCalls_decideOutcome_lt n o 0 q isOpen⟩

/-! ## One turn of the loop -/

theorem selectLoop_hold (fuel : Nat) {k : HoldKind} (holds : s.holdCandidate = some k) :
    selectLoop (fuel + 1) s = beginContention (.hold k) (s.holdParcel k) s := by
  simp only [selectLoop, holds]
theorem selectLoop_none (fuel : Nat) (holds : s.holdCandidate = none) (call : s.callCandidate = none) :
    selectLoop (fuel + 1) s = s := by
  simp only [selectLoop, holds, call]
theorem selectLoop_start (fuel : Nat) (holds : s.holdCandidate = none) (call : s.callCandidate = some n)
    (check : s.startCheck n = none) : selectLoop (fuel + 1) s = startCall n s := by
  simp only [selectLoop, holds, call, check]
theorem selectLoop_fail (fuel : Nat) (holds : s.holdCandidate = none) (call : s.callCandidate = some n)
    {o : CallOutcome} (check : s.startCheck n = some o) :
    selectLoop (fuel + 1) s = selectLoop fuel (failStart n o s) := by
  simp only [selectLoop, holds, call, check]

/-- With fewer open calls than turns left, one more turn makes no difference (log 18). -/
theorem selectLoop_succ (fuel : Nat) : ∀ s : State, QueuedAreOpen s → openCalls s < fuel →
    selectLoop (fuel + 1) s = selectLoop fuel s := by
  induction fuel with
  | zero => exact fun s _ lt => absurd lt (Nat.not_lt_zero _)
  | succ fuel ih =>
    intro s q lt
    cases holds : s.holdCandidate with
    | some k => rw [selectLoop_hold _ holds, selectLoop_hold _ holds]
    | none =>
      cases call : s.callCandidate with
      | none => rw [selectLoop_none _ holds call, selectLoop_none _ holds call]
      | some n =>
        cases check : s.startCheck n with
        | none => rw [selectLoop_start _ holds call check, selectLoop_start _ holds call check]
        | some o =>
          obtain ⟨q', fewer⟩ := openCalls_failStart_lt q ((callCandidate_iff s n).mp call) o
          rw [selectLoop_fail _ holds call check, selectLoop_fail _ holds call check, ih _ q' (by omega)]

/-- A selection with the bus free (R27). -/
theorem select_free (idle : s.link.act = .idle) (free : s.link.bus = .free) (awake : s.doze.state ≠ .dozing) :
    select s = selectLoop 25 s := if_pos ⟨idle, free, awake⟩

/-- The outcomes of start checks (R51). -/
theorem startCheck_sessionFault {o : CallOutcome} (check : s.startCheck n = some o) :
    o.sessionFault = decide (o ≠ .badIdentity) := by
  simp only [State.startCheck] at check
  repeat' split at check
  all_goals cases check <;> rfl

/-- A call that a start check completes is passed over: the selection is that of the state it leaves (R49, R51). -/
theorem select_failStart (idle : s.link.act = .idle) (free : s.link.bus = .free) (awake : s.doze.state ≠ .dozing)
    (holds : s.holdCandidate = none) (first : FirstCall s n) {o : CallOutcome} (check : s.startCheck n = some o)
    (q : QueuedAreOpen s) : select s = select (failStart n o s) := by
  obtain ⟨q', fewer⟩ := openCalls_failStart_lt q first o
  have bound := openCalls_le s
  rw [select_free idle free awake, selectLoop_fail _ holds ((callCandidate_iff s n).mpr first) check,
    select_free (by simpa using idle) (by simpa using free) (by simpa using awake), selectLoop_succ 24 _ q' (by omega)]
end

/-- Settles O37: one turn of the loop, by the candidate that it finds. -/
theorem selectionOrder : Obligations.SelectionOrder := by
  intro s idle free awake
  have take := select_free idle free awake
  refine ⟨fun a => ?_, fun a r => ?_, fun a r mask time m => ?_, fun a r m => ⟨fun nobody => ?_, fun n first =>
    ⟨fun o check q => ?_, fun check => ?_⟩⟩⟩
  · rw [take, selectLoop_hold _ (holdCandidate_assertion s a), beginContention_eq, holdParcel_eq s rfl]
    rfl
  · rw [take, selectLoop_hold _ (holdCandidate_release s a r), beginContention_eq, holdParcel_eq s rfl]
  · have request : s.holdRequest .manual = (mask, time) := by simp [State.holdRequest, m]
    rw [take, selectLoop_hold _ (holdCandidate_manual s a r (by simp [m])), beginContention_eq, holdParcel_eq s request]
  · have nocall : s.callCandidate = none :=
      Option.eq_none_iff_forall_ne_some.mpr fun n call => nobody n ((callCandidate_iff s n).mp call)
    rw [take, selectLoop_none _ (holdCandidate_none s a r m) nocall]
  · rw [select_failStart idle free awake (holdCandidate_none s a r m) first check (queuedAreOpen_of_coherent q),
      failStart, startCheck_sessionFault check]
  · rw [take, selectLoop_start _ (holdCandidate_none s a r m) ((callCandidate_iff s n).mpr first) check, startCall_eq,
      callParcel_eq]

end Sys2Proof.StrandBus
end

section
/-! The expiries of one HCLK edge (R132): no event of an expiry makes another timer reach its end, so what is due on an
edge is what was due when it began. -/

namespace Sys2Proof.StrandBus

open Sys2Proof.Machine Sys2Proof.Safety

/-! ## States with no further expiry due -/

/-- A timer that is due in `t` was due in `s` already. -/
structure NoNewDue (s t : State) : Prop where
  holds : ∀ c : Fin 4, isDue t.hold.timers[c] = true → isDue s.hold.timers[c] = true
  backoffs : ∀ c : Fin 4, isDue t.calls.backoff[c] = true → isDue s.calls.backoff[c] = true
  refresh : isDue t.hold.refresh = true → isDue s.hold.refresh = true
  lease : isDue t.sess.leaseTimer = true → isDue s.sess.leaseTimer = true
  mirrors : ∀ k, isDue (t.mirrorOf k) = true → isDue (s.mirrorOf k) = true
  stuck : rowDue t .stuckTimerExpiry = true → rowDue s .stuckTimerExpiry = true
  idle : isDue t.doze.idle = true → isDue s.doze.idle = true

namespace NoNewDue

theorem due {s t : State} (h : NoNewDue s t) : ∀ e : Expiry, rowDue t e.row = true → rowDue s e.row = true
  | .hold c => h.holds c
  | .backoff c => h.backoffs c
  | .refresh => h.refresh
  | .lease => h.lease
  | .mirror k => h.mirrors k
  | .stuck => h.stuck
  | .dozeIdle => h.idle

theorem trans {s t u : State} (h : NoNewDue s t) (g : NoNewDue t u) : NoNewDue s u :=
  ⟨fun c d => h.holds c (g.holds c d), fun c d => h.backoffs c (g.backoffs c d), fun d => h.refresh (g.refresh d),
    fun d => h.lease (g.lease d), fun k d => h.mirrors k (g.mirrors k d), fun d => h.stuck (g.stuck d),
    fun d => h.idle (g.idle d)⟩

theorem mirrors_of_stack {s t : State} (e : t.sess.stack = s.sess.stack) (k : Nat) : t.mirrorOf k = s.mirrorOf k := by
  simp only [State.mirrorOf, State.sessEntry, State.entryAt, State.positionFromBottom, e]

theorem stuck_of_eq {s t : State} (e : t.link.line.stuck = s.link.line.stuck) (a : t.link.act = s.link.act) :
    rowDue t .stuckTimerExpiry = true → rowDue s .stuckTimerExpiry = true := by
  simp only [rowDue, e, a, imp_self]

/-- Where no timer and no state of the stuck timer's has changed. -/
theorem of_eq {s t : State} (hold : t.hold = s.hold) (backoff : t.calls.backoff = s.calls.backoff)
    (lease : t.sess.leaseTimer = s.sess.leaseTimer) (stack : t.sess.stack = s.sess.stack)
    (stuck : t.link.line.stuck = s.link.line.stuck) (act : t.link.act = s.link.act) (doze : t.doze = s.doze) :
    NoNewDue s t :=
  ⟨fun _ => by rw [hold]; exact id, fun _ => by rw [backoff]; exact id, by rw [hold]; exact id, by rw [lease]; exact id,
    fun k => (congrArg (isDue · = true) (mirrors_of_stack stack k)).mp, stuck_of_eq stuck act, by rw [doze]; exact id⟩

theorem refl (s : State) : NoNewDue s s := of_eq rfl rfl rfl rfl rfl rfl rfl

/-- An event that acts only under a condition. -/
theorem ite {s t : State} {c : Prop} [Decidable c] (h : NoNewDue s t) : NoNewDue s (if c then t else s) := by
  split
  · exact h
  · exact refl s

end NoNewDue

/-! ## Timers that are started -/

@[simp] theorem isDue_none : isDue none = false := rfl
theorem isDue_start (div us : Nat) : isDue (Timer.start div us) = false := by
  unfold Timer.start
  split
  · rfl
  · simpa [isDue, Timer.due]
theorem isDue_startAged (div us age : Nat) : isDue (Timer.startAged div us age) = false := by
  unfold Timer.startAged
  dsimp only
  split
  · rfl
  · have : (us * (div + 1) - age + div) / (div + 1) ≠ 0 := (Nat.div_pos (by omega) (by omega)).ne'
    simpa [isDue, Timer.due]

/-- Putting back one of some timers with one that is not due makes no other due. -/
theorem isDue_set {v : Vector (Option Timer) 4} {c d : Fin 4} {t : Option Timer} (h : isDue t = false) :
    isDue (v.set c t)[d] = true → isDue v[d] = true := by
  simp only [Fin.getElem_fin, Vector.getElem_set]
  split
  · simp [h]
  · exact id

/-! ## The Session Stack -/

section
variable {s t : State}

theorem mirrorOf_eq (k : Nat) : s.mirrorOf k =
    if 1 ≤ k ∧ k ≤ s.sess.stack.length then (s.sess.stack[s.sess.stack.length - k]?).bind (·.mirror) else none := by
  simp only [State.mirrorOf, State.sessEntry, State.entryAt, State.positionFromBottom]
  split <;> rfl

theorem mirrors_push {e : SessEntry} (h : t.sess.stack = e :: s.sess.stack) (fresh : isDue e.mirror = false) (k : Nat) :
    isDue (t.mirrorOf k) = true → isDue (s.mirrorOf k) = true := by
  rw [mirrorOf_eq, mirrorOf_eq, h, List.length_cons]
  by_cases top : k = s.sess.stack.length + 1
  · simp [top, fresh]
  · by_cases inside : 1 ≤ k ∧ k ≤ s.sess.stack.length
    · have place : s.sess.stack.length + 1 - k = s.sess.stack.length - k + 1 := by omega
      rw [if_pos (by omega), if_pos inside, place, List.getElem?_cons_succ]
      exact id
    · rw [if_neg (by omega)]; simp

theorem mirrors_pop (h : t.sess.stack = s.sess.stack.tail) (k : Nat) :
    isDue (t.mirrorOf k) = true → isDue (s.mirrorOf k) = true := by
  rw [mirrorOf_eq, mirrorOf_eq, h, List.length_tail]
  by_cases inside : 1 ≤ k ∧ k ≤ s.sess.stack.length - 1
  · have place : s.sess.stack.length - 1 - k + 1 = s.sess.stack.length - k := by omega
    rw [if_pos inside, if_pos (by omega), List.getElem?_tail, place]
    exact id
  · rw [if_neg inside]; simp

theorem mirrors_modify {i : Nat} {f : SessEntry → SessEntry} (h : t.sess.stack = s.sess.stack.modify i f)
    (stops : ∀ e, (f e).mirror = none) (k : Nat) : isDue (t.mirrorOf k) = true → isDue (s.mirrorOf k) = true := by
  rw [mirrorOf_eq, mirrorOf_eq, h, List.length_modify, List.getElem?_modify]
  split
  · by_cases at' : i = s.sess.stack.length - k
    · cases s.sess.stack[s.sess.stack.length - k]? <;> simp [at', stops]
    · simp [at']
  · exact id

/-- A pushed entry's mirror has just been started (R72). -/
theorem mirrors_pushSession {node identity : BitVec 5} {lease : BitVec 8} (k : Nat) :
    isDue ((pushSession node identity lease s).mirrorOf k) = true → isDue (s.mirrorOf k) = true := by
  have stack : (pushSession node identity lease s).sess.stack =
      ⟨node, identity, lease, if lease = 0 then none else s.mirrorFor lease,
        lease ≠ 0 && (if lease = 0 then none else s.mirrorFor lease).isNone⟩ :: s.sess.stack := by simp [pushSession]
  refine mirrors_push stack ?_ k
  dsimp only
  split
  · rfl
  · exact isDue_startAged ..

/-- Step 3 of R60 takes the top entry off, or puts one on whose mirror is not due. -/
theorem mirrors_closeSession (n : SlotId) (x : Slot) (o : CallOutcome) (source : BitVec 5) (s : State) (k : Nat) :
    isDue ((closeSession n x o source s).mirrorOf k) = true → isDue (s.mirrorOf k) = true := by
  have opened : ∀ u : State,
      (if u.sess.gate = some n then { u with sess := { u.sess with gate := none } } else u).sess.stack =
        u.sess.stack := by
    intro u; split <;> rfl
  unfold closeSession
  dsimp only
  rw [NoNewDue.mirrors_of_stack (opened _)]
  split
  · exact mirrors_pushSession k
  · split
    · exact mirrors_pop rfl k
    · exact id

end

/-! ## The Call Engine -/

theorem noNewDue_closeCall (n : SlotId) (o : CallOutcome) (source : BitVec 5) (s : State) :
    NoNewDue s (closeCall n o source s) := by
  obtain ⟨calls, sess⟩ := closeCall_spec s n o source
  refine ⟨by simp, fun c => ?_, by simp, ?_, fun k => ?_, NoNewDue.stuck_of_eq (by simp) (by simp), by simp⟩
  · rw [calls]
    dsimp only
    split
    · exact isDue_set rfl
    · exact id
  · rw [sess]; exact id
  · have stack : (closeCall n o source s).sess.stack =
        (closeSession n s.calls.slots[n] o source (closeTag s.calls.slots[n] (closeSlot n o s))).sess.stack := by
      simp [closeCall]
    rw [NoNewDue.mirrors_of_stack stack]
    intro due
    have := mirrors_closeSession _ _ _ _ _ _ due
    rwa [NoNewDue.mirrors_of_stack (s := s) (by simp)] at this

theorem noNewDue_closeChain (fuel : Nat) : ∀ (n : SlotId) (o : CallOutcome) (source : BitVec 5) (s : State),
    NoNewDue s (closeChain fuel n o source s) := by
  induction fuel with
  | zero => exact fun _ _ _ s => .refl s
  | succ fuel ih =>
    intro n o source s
    have one := noNewDue_closeCall n o source s
    unfold closeChain
    dsimp only
    split
    · split
      · exact one.trans (ih ..)
      · exact one
    · exact one

theorem noNewDue_decideOutcome (n : SlotId) (o : CallOutcome) (source : BitVec 5) (s : State) :
    NoNewDue s (decideOutcome n o source s) := noNewDue_closeChain ..

theorem noNewDue_raiseIf (b : Bool) (e : Event) (s : State) : NoNewDue s (raiseIf b e s) := by
  apply NoNewDue.of_eq <;> simp

theorem noNewDue_callAbandoned (s : State) : NoNewDue s (callAbandoned s) := by
  have ended : NoNewDue s (endCurrent s) := .of_eq rfl rfl rfl rfl rfl rfl rfl
  unfold callAbandoned
  split
  · exact .refl s
  · dsimp only
    split
    · exact ended.trans (noNewDue_decideOutcome ..)
    · exact ended

theorem noNewDue_callWithdrawn (s : State) : NoNewDue s (callWithdrawn s) := by
  have ended : ∀ n f, NoNewDue s (endCurrent (updSlot n f s)) := fun _ _ => .of_eq rfl rfl rfl rfl rfl rfl rfl
  unfold callWithdrawn
  split
  · exact .refl s
  · dsimp only
    split
    · exact (ended _ _).trans (noNewDue_decideOutcome ..)
    · exact ended _ _

theorem noNewDue_abandon (s : State) : NoNewDue s (abandon s) := by
  unfold abandon
  split
  · rename_i o _ _
    cases o
    · exact noNewDue_callAbandoned s
    · exact .refl s
  · rename_i o _ _
    cases o
    · exact noNewDue_callWithdrawn s
    · exact .refl s
  · exact noNewDue_callWithdrawn s
  · exact noNewDue_callWithdrawn s
  · exact .refl s

/-! ## The end of an event -/

/-- A lead mark starts the stuck timer anew, or leaves it as it runs (R134). -/
theorem noNewDue_beginContention (o : Owner) (p : Parcel) {s : State} (idle : s.link.act = .idle) :
    NoNewDue s (beginContention o p s) := by
  have mirrors (k : Nat) : (beginContention o p s).mirrorOf k = s.mirrorOf k := NoNewDue.mirrors_of_stack (by simp) k
  refine ⟨by simp, by simp, by simp, by simp, fun k => by rw [mirrors]; exact id, ?_, by simp⟩
  rw [beginContention_eq]
  cases low : s.link.line.low <;> simp [rowDue, ownLead, low, isDue_start, idle]

theorem noNewDue_startCall (n : SlotId) {s : State} (idle : s.link.act = .idle) : NoNewDue s (startCall n s) := by
  unfold startCall
  dsimp only
  refine NoNewDue.trans ?_ (noNewDue_beginContention _ _ ?_)
  · exact .of_eq rfl rfl rfl rfl rfl rfl rfl
  · exact idle

theorem noNewDue_selectLoop (fuel : Nat) : ∀ s : State, s.link.act = .idle → NoNewDue s (selectLoop fuel s) := by
  induction fuel with
  | zero => exact fun s _ => .refl s
  | succ fuel ih =>
    intro s idle
    unfold selectLoop
    split
    · exact noNewDue_beginContention _ _ idle
    · split
      · exact .refl s
      · rename_i n _
        split
        · rename_i o _
          have failed : NoNewDue s (failStart n o s) := (noNewDue_decideOutcome ..).trans (noNewDue_raiseIf ..)
          exact failed.trans (ih _ (by simpa using idle))
        · exact noNewDue_startCall n idle

theorem noNewDue_select (s : State) : NoNewDue s (select s) := by
  unfold select
  split
  · rename_i h
    exact noNewDue_selectLoop _ s h.1
  · exact .refl s

theorem noNewDue_enterDoze (s : State) : NoNewDue s (enterDoze s) := by
  unfold enterDoze
  split
  · exact ⟨fun _ => id, fun _ => id, id, id, fun _ => id, id, by simp⟩
  · exact .refl s

theorem noNewDue_updateIdle (s : State) : NoNewDue s (updateIdle s) := by
  refine ⟨fun _ => id, fun _ => id, id, id, fun _ => id, id, ?_⟩
  unfold updateIdle
  dsimp only
  split
  · cases s.doze.idle <;> simp [isDue_start]
  · simp

theorem noNewDue_endEvent (s : State) : NoNewDue s (endEvent s) :=
  (noNewDue_select s).trans <| (noNewDue_enterDoze _).trans <| (noNewDue_updateIdle _).trans
    (.of_eq rfl rfl rfl rfl rfl rfl rfl)

/-! ## The expiries -/

theorem noNewDue_effect (s : State) : ∀ e : Expiry, NoNewDue s (e.effect s)
  | .hold _ => .ite ⟨fun _ => isDue_set rfl, fun _ => id, id, id, fun _ => id, id, id⟩
  | .backoff _ => ⟨fun _ => id, fun _ => isDue_set rfl, id, id, fun _ => id, id, id⟩
  | .refresh => .ite ⟨fun _ => id, fun _ => id, by simp, id, fun _ => id, id, id⟩
  | .lease => .ite ⟨fun _ => id, fun _ => id, id, by simp, fun _ => id, id, id⟩
  | .mirror _ => .ite ⟨fun _ => id, fun _ => id, id, id, mirrors_modify rfl (fun _ => rfl), id, id⟩
  | .stuck => .ite <| (noNewDue_abandon s).trans ⟨fun _ => id, fun _ => id, id, id, fun _ => id, by simp [rowDue], id⟩
  | .dozeIdle => .ite ⟨fun _ => id, fun _ => id, id, id, fun _ => id, id, by simp⟩

/-- An expiry as an event of its own (R132). -/
theorem noNewDue_timerEvent (e : Expiry) (s : State) : NoNewDue s (timerEvent e.effect s) := by
  have mirrors (k : Nat) : (markEdge (dropAnswer s)).mirrorOf k = s.mirrorOf k := NoNewDue.mirrors_of_stack (by simp) k
  have stuck : rowDue (markEdge (dropAnswer s)) .stuckTimerExpiry = rowDue s .stuckTimerExpiry := by
    rw [dropAnswer_eq]
    exact rowDue_lineOver s .stuckTimerExpiry
  have dropped : NoNewDue s (markEdge (dropAnswer s)) :=
    ⟨by simp, by simp, by simp, by simp, fun k => by rw [mirrors]; exact id, by rw [stuck]; exact id, by simp⟩
  unfold timerEvent unlessReset
  split
  · exact .refl s
  · exact dropped.trans ((noNewDue_effect _ e).trans (noNewDue_endEvent _))

/-! ## The expiries of an edge, one after another -/

theorem foldl_expireRow_of_none {u : State} : ∀ {rows : List Instr}, (∀ c ∈ rows, rowDue u c = false) →
    rows.foldl expireRow u = u
  | [], _ => rfl
  | c :: rows, idle => by
    have first : expireRow u c = u := by simp [expireRow, idle c List.mem_cons_self]
    rw [List.foldl_cons, first]
    exact foldl_expireRow_of_none fun d m => idle d (List.mem_cons_of_mem _ m)

/-- Every row of an edge is that of an expiry. -/
theorem expiry_of_mem {c : Instr} (m : c ∈ expiryRows) : ∃ e : Expiry, e.row = c := by
  have rows : expiryRows = expiries.map Expiry.row := by decide
  rw [rows, List.mem_map] at m
  obtain ⟨e, _, isRow⟩ := m
  exact ⟨e, isRow⟩

theorem lineOver_idem (s : State) : lineOver (lineOver s) = lineOver s := by
  unfold lineOver
  cases act : s.link.act with
  | answering a begun => cases begun <;> cases low : s.link.line.low <;> simp [act, low]
  | _ => simp [act]

/-- An expiry waits for the line event of its edge, whether that is over or not. -/
theorem exec_lineOver {s : State} (high : s.inReset = false) (e : Expiry) : exec e.row (lineOver s) = exec e.row s := by
  have high' : (lineOver s).inReset = false := by rw [← dropAnswer_eq]; simpa using high
  rw [exec_expiry, exec_expiry, timerEvent_high s high, timerEvent_high _ high', timerEdge, lineOver_idem]
  rfl

/-- An expiry that is due alone takes effect as its row does, and nothing else is due after it. -/
theorem exec_of_single {s : State} (high : s.inReset = false) {c : Instr} (h : dueRows s = [c]) :
    exec c s = .next (hostEdge s) := by
  obtain ⟨before, after, split, early, due, late⟩ := List.filter_eq_cons_iff.mp h
  have none (d : Instr) (m : d ∈ after) : rowDue s d = false := by
    simpa using List.filter_eq_nil_iff.mp late d m
  obtain ⟨e, rfl⟩ := expiry_of_mem (c := c) (by rw [split]; simp)
  have first : expireRow (lineOver s) e.row = timerEvent e.effect s := by
    rw [expireRow, rowDue_lineOver, if_pos due, exec_lineOver high, exec_expiry]
  have rest : after.foldl expireRow (timerEvent e.effect s) = timerEvent e.effect s := by
    refine foldl_expireRow_of_none fun d m => ?_
    obtain ⟨f, rfl⟩ := expiry_of_mem (c := d) (by rw [split]; simp [m])
    have old := (noNewDue_timerEvent e s).due f
    rw [none _ m] at old
    simpa using old
  have start : before.foldl expireRow (lineOver s) = lineOver s :=
    foldl_expireRow_of_none fun d m => by simpa [rowDue_lineOver] using early d m
  rw [exec_expiry, hostEdge, split, List.foldl_append, List.foldl_cons, start, first, rest]

end Sys2Proof.StrandBus
end

section
/-! One HCLK edge to the next: the own cell, the level of SLINE, the stuck timer and the timers (R1, R2, R5, R131,
R134). -/

namespace Sys2Proof.StrandBus

open Sys2Proof.Machine Sys2Proof.Safety

/-! ## The own cell (R2) -/

section
variable (s : State)

/-- Whether the own cell in progress has reached its length with this cycle. -/
def cellEnds : Bool :=
  s.sending.any fun p => (p.cellLength s.bt s.link.line.cell).any (· ≤ s.link.line.cellAge + 1)

/-- The own cell after one more cycle, and its age. -/
def cellAfter : Nat := if cellEnds s then s.link.line.cell + 1 else s.link.line.cell
def ageAfter : Nat :=
  if s.sending = none then s.link.line.cellAge else if cellEnds s then s.edgeAge else s.link.line.cellAge + 1

theorem advanceCell_eq : advanceCell s = setLine { s.link.line with cell := cellAfter s, cellAge := ageAfter s } s := by
  unfold advanceCell cellAfter ageAfter cellEnds
  cases s.sending with
  | none => rfl
  | some p => simp only [Option.any_some]; split <;> rfl

/-- The level of SLINE after one more cycle (R1). -/
def levelAfter : Bool :=
  s.link.line.others.headD false || s.sending.any fun p => ageAfter s < p.cellLow s.bt (cellAfter s)

/-- The pin with the own cell and the other nodes as this edge finds them, its level still to follow. -/
def sampled : State := setLine { s.link.line with
  others := s.link.line.others.tail
  pulled := s.link.line.others.headD false
  cell := cellAfter s
  cellAge := ageAfter s } s

theorem watchLine_sampled : watchLine s =
    match s.link.line.low with
    | none => if levelAfter s then markFall (startLow 0 (sampled s)) else sampled s
    | some age =>
      if levelAfter s then (if quarters s.bt 2 ≤ age then busTaken (sampled s) else sampled s)
      else busTaken (lineRises (sampled s)) := by
  have start : setLine (advanceCell s).link.line.sample (advanceCell s) = sampled s := by rw [advanceCell_eq]; rfl
  have level : ((sampled s).link.line.pulled || (sampled s).drives) = levelAfter s := rfl
  have low : (sampled s).link.line.low = s.link.line.low := rfl
  have bt : (sampled s).bt = s.bt := rfl
  unfold watchLine
  simp only [start, level, low, bt]
  cases s.link.line.low with
  | none => rfl
  | some age => cases levelAfter s <;> rfl

theorem startLow_high {s : State} {age : Nat} (high : s.link.line.low = none) : startLow age s =
    setLine { s.link.line with
      low := some age
      stuck := if s.link.act = .off ∨ s.link.act = .stuck then none else s.stuckTimer age } s := by
  simp [startLow, high]

theorem busTaken_eq : busTaken s = { s with link := { s.link with
    bus := if s.link.act = .idle ∧ s.link.bus = .free then .busy else s.link.bus } } := by
  unfold busTaken; split <;> rfl

/-- The pin, the bus and the note of a falling edge: what an HCLK edge can change. -/
def onEdge (line : Line) (bus : Bus) (fell : Bool) : State := { s with
  link := { s.link with line := line, bus := bus }
  events := { s.events with edgeFell := fell } }

variable {s} in
/-- A state that differs from `s` in these three at most. -/
theorem eq_onEdge {t : State} {line : Line} {bus : Bus} {fell : Bool}
    (frame : t = onEdge s t.link.line t.link.bus t.events.edgeFell) (l : t.link.line = line) (b : t.link.bus = bus)
    (f : t.events.edgeFell = fell) : t = onEdge s line bus fell := by
  subst l b f
  exact frame

/-- The pin after one more cycle: its level, the stuck timer that follows it, and the own cell (R1, R2, R134). -/
def lineNext : Line where
  others := s.link.line.others.tail
  pulled := s.link.line.others.headD false
  low := if levelAfter s then some (s.link.line.low.getD 0) else none
  stuck :=
    if s.link.line.low = none ∧ levelAfter s = true then
      (if s.link.act = .off ∨ s.link.act = .stuck then none else s.stuckTimer 0)
    else if s.link.line.low ≠ none ∧ levelAfter s = false then none else s.link.line.stuck
  cell := cellAfter s
  cellAge := ageAfter s

/-- The bus after one more cycle: a pulse of 0.5 bt, or one that has ended, takes it (R5, R27). -/
def busNext : Bus :=
  if s.link.act = .idle ∧ s.link.bus = .free ∧
      (∃ a ∈ s.link.line.low, levelAfter s = false ∨ quarters s.bt 2 ≤ a) then .busy
  else s.link.bus

/-- What an HCLK edge makes of the pin, of the bus and of the note of a falling edge. -/
theorem watchLine_eq : watchLine s = onEdge s (lineNext s) (busNext s)
    (decide (s.link.line.low = none ∧ levelAfter s = true) || s.events.edgeFell) := by
  rw [watchLine_sampled]
  cases low : s.link.line.low with
  | none =>
    cases level : levelAfter s with
    | false =>
      exact eq_onEdge rfl (by simp [sampled, lineNext, low, level]) (by simp [sampled, busNext, low])
        (by simp [sampled])
    | true =>
      rw [startLow_high (s := sampled s) low]
      exact eq_onEdge rfl (by simp [sampled, lineNext, low, level]; rfl) (by simp [sampled, busNext, low])
        (by simp [sampled])
  | some age =>
    cases level : levelAfter s with
    | false =>
      have up : s.link.line.others.headD false = false := (Bool.or_eq_false_iff.mp level).1
      simp only [busTaken_eq]
      exact eq_onEdge rfl (by simpa [sampled, lineNext, low, level] using up.symm)
        (by simp [sampled, busNext, low, level]) (by simp [sampled])
    | true =>
      by_cases long : quarters s.bt 2 ≤ age
      · simp only [long, if_true, busTaken_eq]
        exact eq_onEdge rfl (by simp [sampled, lineNext, low, level]) (by simp [sampled, busNext, low, level, long])
          (by simp [sampled])
      · simp only [long, if_false, if_true]
        exact eq_onEdge rfl (by simp [sampled, lineNext, low, level]) (by simp [sampled, busNext, low, level, long])
          (by simp [sampled])

/-! ## The cells of a parcel by their numbers (R2) -/

theorem cellLow_eq (bt : Nat) (p : Parcel) (k : Nat) : p.cellLow bt k =
    if k = 0 then 8 * bt / 4
    else if k ≤ 42 + 8 * p.payload.length then (if p.bits[k - 1]? = some true then 1 * bt / 4 else 3 * bt / 4)
    else if k = 42 + 8 * p.payload.length + 1 then 6 * bt / 4 else 0 := by
  unfold Parcel.cellLow
  by_cases lead : k = 0
  · rw [if_pos lead, if_pos lead]; rfl
  · rw [if_neg lead, if_neg lead]
    by_cases data : k ≤ 42 + 8 * p.payload.length
    · rw [if_pos data, List.getElem?_eq_getElem (by rw [bits_length]; omega)]
      cases p.bits[k - 1]'(by rw [bits_length]; omega) <;> rfl
    · rw [if_neg data, List.getElem?_eq_none (by rw [bits_length]; omega)]
      rfl

theorem cellEnds_iff : cellEnds s = true ↔ ∃ p ∈ s.sending,
    (s.link.line.cell = 0 ∧ 12 * s.bt / 4 ≤ s.link.line.cellAge + 1) ∨
      (1 ≤ s.link.line.cell ∧ s.link.line.cell ≤ 42 + 8 * p.payload.length ∧ s.bt ≤ s.link.line.cellAge + 1) := by
  have one (p : Parcel) : (p.cellLength s.bt s.link.line.cell).any (· ≤ s.link.line.cellAge + 1) = true ↔
      (s.link.line.cell = 0 ∧ 12 * s.bt / 4 ≤ s.link.line.cellAge + 1) ∨
        (1 ≤ s.link.line.cell ∧ s.link.line.cell ≤ 42 + 8 * p.payload.length ∧ s.bt ≤ s.link.line.cellAge + 1) := by
    unfold Parcel.cellLength Parcel.bitCount leadLength quarters
    by_cases lead : s.link.line.cell = 0
    · simp [lead]
    · by_cases last : s.link.line.cell ≤ 42 + 8 * p.payload.length
      · simp [lead, last, Nat.one_le_iff_ne_zero]
      · simp [lead, last]
  unfold cellEnds
  cases s.sending <;> simp [one]

/-- The edge of another node's pulse that is one cycle older now, as far as it may begin an own cell. -/
theorem filter_succ_getD (low : Option Nat) (k : Nat) : ((low.map (· + 1)).filter (· < k)).getD 0 =
    match low with
    | some a => if a + 1 < k then a + 1 else 0
    | none => 0 := by
  cases low with
  | none => rfl
  | some a => by_cases h : a + 1 < k <;> simp [Option.filter, h]

theorem edgeAge_of_older {l : Line} (older : s.link.line.low = l.low.map (· + 1)) : s.edgeAge =
    match l.low with
    | some a => if a + 1 < quarters s.bt 2 then a + 1 else 0
    | none => 0 := by
  rw [State.edgeAge, older]
  exact filter_succ_getD ..

/-- SLINE is low while another node pulls it, or in the low part of the own cell (R1, R2). -/
theorem levelAfter_iff : levelAfter s = true ↔ s.link.line.others.headD false = true ∨
    ∃ p ∈ s.sending, ageAfter s < p.cellLow s.bt (cellAfter s) := by
  simp only [levelAfter, Bool.or_eq_true, Option.any_eq_true, decide_eq_true_eq]
  rfl

/-! ## The next HCLK edge -/

/-- The state with the timers one cycle on, before SLINE is followed (R131). -/
def cycled : State := clearEdge (advanceTimers (dropAnswer s))

theorem nextEdge_eq : nextEdge s = onEdge (cycled s) (lineNext (cycled s)) (busNext (cycled s))
    (decide ((cycled s).link.line.low = none ∧ levelAfter (cycled s) = true)) := by
  have quiet : (cycled s).events.edgeFell = false := rfl
  have := watchLine_eq (cycled s)
  rw [quiet, Bool.or_false] at this
  exact this

theorem dropAnswer_setAct : dropAnswer s = setAct (dropAnswer s).link.act s := by
  unfold dropAnswer
  split
  · split <;> rfl
  · rfl

end

section
variable (s : State)

theorem cycled_eq :
    let tick : Option Timer → Option Timer := Option.map (Timer.tick s.div)
    cycled s = { s with
      link := { s.link with
        line := { s.link.line with low := s.link.line.low.map (· + 1), stuck := tick s.link.line.stuck }
        callAge := s.link.callAge.map (· + 1)
        act := (dropAnswer s).link.act }
      calls := { s.calls with backoff := s.calls.backoff.map tick }
      sess := { s.sess with
        stack := s.sess.stack.map fun e => { e with mirror := tick e.mirror }, leaseTimer := tick s.sess.leaseTimer }
      hold := { s.hold with timers := s.hold.timers.map tick, refresh := tick s.hold.refresh }
      doze := { s.doze with idle := tick s.doze.idle }
      events := { s.events with edgeRaised := 0, edgeWoken := false, edgeBegun := false, edgeFell := false } } := by
  intro tick
  have all (v : Vector (Option Timer) 4) : Vector.ofFn (fun c : Fin 4 => tick v[c]) = v.map tick := by ext; simp
  rw [← all, ← all]
  unfold cycled
  rw [dropAnswer_setAct]
  rfl

/-- An answer given up is replaced by the wait for the pulse, and nothing else is (R39). -/
theorem dropAnswer_act : (dropAnswer s).link.act = match s.link.act with
    | .answering a false => if s.link.line.low ≠ none then .pulse else .answering a false
    | act => act := by
  unfold dropAnswer
  cases act : s.link.act with
  | answering a begun => cases begun <;> cases low : s.link.line.low <;> simp [act]
  | _ => exact act

theorem dropAnswer_own : ownOnLine (dropAnswer s).link.act = ownOnLine s.link.act := by
  unfold dropAnswer
  split
  · rename_i a act; split <;> simp [act, ownOnLine]
  · rfl
theorem dropAnswer_act_iff {a : Activity} (other : ∀ p, a ≠ .answering p false) (noPulse : a ≠ .pulse) :
    (dropAnswer s).link.act = a ↔ s.link.act = a := by
  unfold dropAnswer
  split
  · rename_i p act
    split
    · simp [act, other p |>.symm, noPulse.symm]
    · rfl
  · rfl

theorem cycled_line : (cycled s).link.line =
    { s.link.line with low := s.link.line.low.map (· + 1), stuck := s.link.line.stuck.map (Timer.tick s.div) } := by
  rw [cycled_eq]
theorem cycled_bus : (cycled s).link.bus = s.link.bus := by rw [cycled_eq]
theorem cycled_bt : (cycled s).bt = s.bt := by rw [cycled_eq]; rfl
theorem cycled_sending : (cycled s).sending = ownOnLine s.link.act := by
  rw [sending_eq, cycled_eq]
  exact dropAnswer_own s
theorem cycled_act_iff {a : Activity} (other : ∀ p, a ≠ .answering p false) (noPulse : a ≠ .pulse) :
    (cycled s).link.act = a ↔ s.link.act = a := by
  rw [cycled_eq]
  exact dropAnswer_act_iff s other noPulse
theorem cycled_stuckTimer : (cycled s).stuckTimer 0 = Timer.start s.div (s.cfg.linkcfg.stuckLimit.toNat * 100) := by
  rw [stuckTimer_zero, cycled_eq]
  rfl

end

/-- Settles O2: an edge with something due by the order of its rows, and the next edge piece by piece: the own cell, the
level, the pin, the bus. -/
theorem emptyQueueCountsOneCycle : Obligations.EmptyQueueCountsOneCycle := by
  intro s empty high
  have time : step s = .next (tick s) := by unfold step; rw [empty]
  refine ⟨fun due => by rw [time, tick_of_due s high due], fun c single => ?_, fun quiet => ?_⟩
  · rw [time, tick_of_due s high (by rw [single]; simp), exec_of_single high single]
  intro tick quarters l bits ends low own cell edge age drives pulled level falls line t
  have ended : cellEnds (cycled s) = true ↔ ∃ p ∈ own, ends p := by
    rw [cellEnds_iff, cycled_sending, cycled_bt, cycled_line]
  have isEdge : (cycled s).edgeAge = edge := by
    rw [edgeAge_of_older (cycled s) (l := l) (by rw [cycled_line]), cycled_bt]
    rfl
  have isCell : cellAfter (cycled s) = cell := by
    simp only [cellAfter, ended, cycled_line, cell]
    rfl
  have isAge : ageAfter (cycled s) = age := by
    simp only [ageAfter, ended, cycled_sending, cycled_line, isEdge, age]
    rfl
  have isLow : levelAfter (cycled s) = true ↔ level := by
    simp only [levelAfter_iff, cycled_sending, isAge, isCell, cycled_bt, cycled_line, cellLow_eq]
    rfl
  have isHigh : levelAfter (cycled s) = false ↔ ¬ level := by rw [← isLow, Bool.not_eq_true]
  have isLine : lineNext (cycled s) = line := by
    simp only [lineNext, isLow, isHigh, cycled_line, Option.map_eq_none_iff, ne_eq, cycled_stuckTimer, isCell, isAge,
      cycled_act_iff s (a := .off) (by simp) (by simp), cycled_act_iff s (a := .stuck) (by simp) (by simp)]
    rfl
  have isBus : busNext (cycled s) = t.link.bus := by
    simp only [busNext, cycled_act_iff s (a := .idle) (by simp) (by simp), cycled_bus, cycled_line, isHigh, cycled_bt,
      Option.mem_map, exists_exists_and_eq_and]
    rfl
  have isFall : decide ((cycled s).link.line.low = none ∧ levelAfter (cycled s) = true) = decide falls := by
    simp only [cycled_line, isLow, Option.map_eq_none_iff]
    rfl
  rw [time, tick_of_none s high quiet, nextEdge_eq, isLine, isBus, isFall, onEdge, cycled_eq, dropAnswer_act] <;> rfl

end Sys2Proof.StrandBus
end

section
/-! What the operations leave of the blocks that they touch: the link state and quarantine, the holder of the claim with
its lease, the Session Stack, and the bits of EVST without a name. -/

namespace Sys2Proof.Linkage

open Sys2Proof.Machine Sys2Proof.Safety

variable (s : State)

/-! ## Events. The bits of EVST that no event has are 4:0 and 31:27 (R151). -/

@[simp] theorem or_mask_unnamed (x : Word) (e : Event) : (x ||| e.mask) &&& 0xF800001F#32 = x &&& 0xF800001F#32 := by
  have named : e.mask &&& 0xF800001F#32 = 0#32 := by cases e <;> decide
  rw [BitVec.and_comm, BitVec.and_or_distrib_left, BitVec.and_comm _ e.mask, named, BitVec.or_zero, BitVec.and_comm]

@[simp] theorem raiseIf_named (b : Bool) (e : Event) :
    (raiseIf b e s).events.sticky &&& 0xF800001F#32 = s.events.sticky &&& 0xF800001F#32 := by
  cases b <;> simp
@[simp] theorem count_named (c : Counter) :
    (count c s).events.sticky &&& 0xF800001F#32 = s.events.sticky &&& 0xF800001F#32 := by
  simp [count]

/-! ## The pin. Its level says nothing of the link state. -/

@[simp] theorem startLow_link (a : Nat) :
    (startLow a s).link.act = s.link.act ∧ (startLow a s).link.quarantine = s.link.quarantine := by
  unfold startLow; split <;> simp
@[simp] theorem leadBegins_link :
    (leadBegins s).link.act = s.link.act ∧ (leadBegins s).link.quarantine = s.link.quarantine := by
  simp [leadBegins]
@[simp] theorem markSeen_link :
    (markSeen s).link.act = s.link.act ∧ (markSeen s).link.quarantine = s.link.quarantine := by
  simp [markSeen]
@[simp] theorem rowHigh_link :
    (rowHigh s).link.act = s.link.act ∧ (rowHigh s).link.quarantine = s.link.quarantine := by
  unfold rowHigh; split <;> simp
@[simp] theorem releaseLine_link :
    (releaseLine s).link.act = s.link.act ∧ (releaseLine s).link.quarantine = s.link.quarantine := by
  unfold releaseLine; split <;> simp
@[simp] theorem lineAfter_link (r : RxResult) :
    (lineAfter r s).link.act = s.link.act ∧ (lineAfter r s).link.quarantine = s.link.quarantine := by
  unfold lineAfter; split <;> simp
@[simp] theorem dropAnswer_quarantine : (dropAnswer s).link.quarantine = s.link.quarantine := by
  unfold dropAnswer; split <;> [split; skip] <;> simp

/-! ## The Session Unit -/

@[simp] theorem pushSession_keeps (n i : BitVec 5) (l : BitVec 8) :
    (pushSession n i l s).sess.holder = s.sess.holder ∧ (pushSession n i l s).sess.leaseTimer = s.sess.leaseTimer ∧
    (pushSession n i l s).events.sticky &&& 0xF800001F#32 = s.events.sticky &&& 0xF800001F#32 := by
  simp [pushSession]
@[simp] theorem restartMirrors_keeps (p : Parcel) :
    (restartMirrors p s).sess.holder = s.sess.holder ∧ (restartMirrors p s).sess.leaseTimer = s.sess.leaseTimer ∧
    (restartMirrors p s).events.sticky &&& 0xF800001F#32 = s.events.sticky &&& 0xF800001F#32 := by
  simp [restartMirrors]
@[simp] theorem mirrorExpires_keeps (k : Nat) :
    (mirrorExpires k s).sess.holder = s.sess.holder ∧ (mirrorExpires k s).sess.leaseTimer = s.sess.leaseTimer ∧
    (mirrorExpires k s).events.sticky &&& 0xF800001F#32 = s.events.sticky &&& 0xF800001F#32 := by
  simp [mirrorExpires]
@[simp] theorem takeClaim_named (n : BitVec 5) :
    (takeClaim n s).events.sticky &&& 0xF800001F#32 = s.events.sticky &&& 0xF800001F#32 := by
  simp [takeClaim]
@[simp] theorem endClaim_named (c : EndCause) :
    (endClaim c s).events.sticky &&& 0xF800001F#32 = s.events.sticky &&& 0xF800001F#32 := by
  simp [endClaim]

/-! ## The Call Engine. An outcome touches the Session Unit in its stack and its gate, and the stack only if it is ACKED or
REFUSED (R72, R74). -/

/-- The gate's release is no push and no pop. -/
theorem gate_stack (u : State) (n : SlotId) :
    (if u.sess.gate = some n then { u with sess := { u.sess with gate := none } } else u).sess.stack = u.sess.stack := by
  split <;> rfl

@[simp] theorem closeSession_keeps (n : SlotId) (x : Slot) (o : CallOutcome) (i : BitVec 5) :
    (closeSession n x o i s).sess.holder = s.sess.holder ∧
    (closeSession n x o i s).sess.leaseTimer = s.sess.leaseTimer ∧
    (closeSession n x o i s).events.sticky &&& 0xF800001F#32 = s.events.sticky &&& 0xF800001F#32 := by
  unfold closeSession; dsimp only; repeat' split
  all_goals simp

/-- Step 3 of R60 on the Session Stack. -/
theorem closeSession_stack (n : SlotId) (x : Slot) (o : CallOutcome) (i : BitVec 5) :
    (closeSession n x o i s).sess.stack =
      if x.kind = 3 ∧ o = .acked then (pushSession x.dest i (x.answer.headD 0) s).sess.stack
      else if x.kind = 4 ∧ (o = .acked ∨ (o = .refused ∧ x.reason = some 0x04#8)) then s.sess.stack.tail
      else s.sess.stack := by
  unfold closeSession
  dsimp only
  rw [gate_stack]
  simp only [apply_ite State.sess, apply_ite SessionUnit.stack]
  rfl

@[simp] theorem closeCall_keeps (n : SlotId) (o : CallOutcome) (i : BitVec 5) :
    (closeCall n o i s).sess.holder = s.sess.holder ∧ (closeCall n o i s).sess.leaseTimer = s.sess.leaseTimer ∧
    (closeCall n o i s).events.sticky &&& 0xF800001F#32 = s.events.sticky &&& 0xF800001F#32 := by
  simp [closeCall]
theorem closeCall_stack (n : SlotId) (o : CallOutcome) (i : BitVec 5) :
    (closeCall n o i s).sess.stack =
      let x := s.calls.slots[n]
      if x.kind = 3 ∧ o = .acked then (pushSession x.dest i (x.answer.headD 0) s).sess.stack
      else if x.kind = 4 ∧ (o = .acked ∨ (o = .refused ∧ x.reason = some 0x04#8)) then s.sess.stack.tail
      else s.sess.stack := by
  simp only [closeCall, closePointer_frame, appendRecord_frame, closeSession_stack, closeTag_frame, closeSlot_frame]
  have : (closeTag s.calls.slots[n] (closeSlot n o s)).link = s.link := by simp
  simp [pushSession, State.mirrorFor, State.div]

@[simp] theorem closeChain_keeps (fuel : Nat) (n : SlotId) (o : CallOutcome) (i : BitVec 5) :
    (closeChain fuel n o i s).sess.holder = s.sess.holder ∧
    (closeChain fuel n o i s).sess.leaseTimer = s.sess.leaseTimer ∧
    (closeChain fuel n o i s).events.sticky &&& 0xF800001F#32 = s.events.sticky &&& 0xF800001F#32 := by
  induction fuel generalizing n o i s with
  | zero => simp [closeChain]
  | succ fuel ih =>
    unfold closeChain; dsimp only; repeat' split
    all_goals simp [ih]
/-- The calls of a broken chain leave the stack alone (R69). -/
theorem closeChain_broken_stack (fuel : Nat) (n : SlotId) (i : BitVec 5) :
    (closeChain fuel n .chainBroken i s).sess.stack = s.sess.stack := by
  induction fuel generalizing n i s with
  | zero => rfl
  | succ fuel ih =>
    unfold closeChain; dsimp only; repeat' split
    all_goals simp [ih, closeCall_stack]

@[simp] theorem decideOutcome_keeps (n : SlotId) (o : CallOutcome) (i : BitVec 5) :
    (decideOutcome n o i s).sess.holder = s.sess.holder ∧
    (decideOutcome n o i s).sess.leaseTimer = s.sess.leaseTimer ∧
    (decideOutcome n o i s).events.sticky &&& 0xF800001F#32 = s.events.sticky &&& 0xF800001F#32 :=
  closeChain_keeps s _ n o i
theorem decideOutcome_stack (n : SlotId) (o : CallOutcome) (i : BitVec 5) :
    (decideOutcome n o i s).sess.stack = (closeCall n o i s).sess.stack := by
  rw [decideOutcome, closeChain]
  split
  · split
    · rw [closeChain_broken_stack]
    · rfl
  · rfl
/-- Outcomes that neither push nor pop (R72, R74). -/
theorem decideOutcome_stack_other (n : SlotId) (o : CallOutcome) (i : BitVec 5) (acked : o ≠ .acked)
    (refused : o ≠ .refused) : (decideOutcome n o i s).sess.stack = s.sess.stack := by
  simp [decideOutcome_stack, closeCall_stack, acked, refused]

@[simp] theorem callLost_keeps :
    (callLost s).link.act = s.link.act ∧ (callLost s).link.quarantine = s.link.quarantine ∧
    (callLost s).sess.holder = s.sess.holder ∧ (callLost s).sess.leaseTimer = s.sess.leaseTimer ∧
    (callLost s).sess.stack = s.sess.stack ∧
    (callLost s).events.sticky &&& 0xF800001F#32 = s.events.sticky &&& 0xF800001F#32 := by
  unfold callLost; dsimp only; repeat' split
  all_goals simp [decideOutcome_stack_other]
@[simp] theorem callAbandoned_keeps :
    (callAbandoned s).link.act = s.link.act ∧ (callAbandoned s).link.quarantine = s.link.quarantine ∧
    (callAbandoned s).sess.holder = s.sess.holder ∧ (callAbandoned s).sess.leaseTimer = s.sess.leaseTimer ∧
    (callAbandoned s).sess.stack = s.sess.stack ∧
    (callAbandoned s).events.sticky &&& 0xF800001F#32 = s.events.sticky &&& 0xF800001F#32 := by
  unfold callAbandoned; dsimp only; repeat' split
  all_goals simp [decideOutcome_stack_other]
@[simp] theorem callWithdrawn_keeps :
    (callWithdrawn s).link.act = s.link.act ∧ (callWithdrawn s).link.quarantine = s.link.quarantine ∧
    (callWithdrawn s).sess.holder = s.sess.holder ∧ (callWithdrawn s).sess.leaseTimer = s.sess.leaseTimer ∧
    (callWithdrawn s).sess.stack = s.sess.stack ∧
    (callWithdrawn s).events.sticky &&& 0xF800001F#32 = s.events.sticky &&& 0xF800001F#32 := by
  unfold callWithdrawn; dsimp only; repeat' split
  all_goals simp [decideOutcome_stack_other]
@[simp] theorem attemptEnd_keeps (own : Parcel) (r : ExchangeResult) :
    (attemptEnd own r s).link.act = s.link.act ∧ (attemptEnd own r s).link.quarantine = s.link.quarantine ∧
    (attemptEnd own r s).sess.holder = s.sess.holder ∧ (attemptEnd own r s).sess.leaseTimer = s.sess.leaseTimer ∧
    (attemptEnd own r s).events.sticky &&& 0xF800001F#32 = s.events.sticky &&& 0xF800001F#32 := by
  unfold attemptEnd; dsimp only; repeat' split
  all_goals simp
/-- An attempt end that is no accepted answer but DEFER neither pushes nor pops (R72, R74). -/
theorem attemptEnd_stack_other (own : Parcel) (r : ExchangeResult) (acked : r.outcome ≠ .acked)
    (refused : r.outcome ≠ .refused) : (attemptEnd own r s).sess.stack = s.sess.stack := by
  have other : ∀ bytes, r ≠ .acked bytes := fun _ e => acked (e ▸ rfl)
  cases current : s.calls.current with
  | none => simp [attemptEnd, current]
  | some n =>
    rw [StrandBus.attemptEnd_of_not_acked current own r other]
    dsimp only [StrandBus.ageEnded]
    repeat' split
    all_goals simp [decideOutcome_stack_other, acked, refused, StrandBus.endWith]

@[simp] theorem attemptEnd_stack (own : Parcel) :
    (∀ b, (attemptEnd own (.broken b) s).sess.stack = s.sess.stack) ∧
    (attemptEnd own .noAnswer s).sess.stack = s.sess.stack ∧ (attemptEnd own .sent s).sess.stack = s.sess.stack ∧
    (∀ code, (attemptEnd own (.answerFault code) s).sess.stack = s.sess.stack) ∧
    (∀ code, (attemptEnd own (.deferred code) s).sess.stack = s.sess.stack) :=
  ⟨fun _ => attemptEnd_stack_other s own _ nofun nofun, attemptEnd_stack_other s own _ nofun nofun,
    attemptEnd_stack_other s own _ nofun nofun, fun _ => attemptEnd_stack_other s own _ nofun nofun,
    fun _ => attemptEnd_stack_other s own _ nofun nofun⟩

@[simp] theorem failStart_keeps (n : SlotId) (o : CallOutcome) :
    (failStart n o s).sess.holder = s.sess.holder ∧ (failStart n o s).sess.leaseTimer = s.sess.leaseTimer ∧
    (failStart n o s).events.sticky &&& 0xF800001F#32 = s.events.sticky &&& 0xF800001F#32 := by
  simp [failStart]

/-! ## Reports, faults and abandonment (R29, R41, R42) -/

@[simp] theorem reportLost_keeps (o : Owner) :
    (reportLost o s).link.act = s.link.act ∧ (reportLost o s).link.quarantine = s.link.quarantine ∧
    (reportLost o s).sess.holder = s.sess.holder ∧ (reportLost o s).sess.leaseTimer = s.sess.leaseTimer ∧
    (reportLost o s).sess.stack = s.sess.stack ∧
    (reportLost o s).events.sticky &&& 0xF800001F#32 = s.events.sticky &&& 0xF800001F#32 := by
  cases o <;> simp [reportLost]
@[simp] theorem reportAbandoned_keeps (o : Owner) :
    (reportAbandoned o s).link.act = s.link.act ∧ (reportAbandoned o s).link.quarantine = s.link.quarantine ∧
    (reportAbandoned o s).sess.holder = s.sess.holder ∧ (reportAbandoned o s).sess.leaseTimer = s.sess.leaseTimer ∧
    (reportAbandoned o s).sess.stack = s.sess.stack ∧
    (reportAbandoned o s).events.sticky &&& 0xF800001F#32 = s.events.sticky &&& 0xF800001F#32 := by
  cases o <;> simp [reportAbandoned]
@[simp] theorem reportWithdrawn_keeps (o : Owner) :
    (reportWithdrawn o s).link.act = s.link.act ∧ (reportWithdrawn o s).link.quarantine = s.link.quarantine ∧
    (reportWithdrawn o s).sess.holder = s.sess.holder ∧ (reportWithdrawn o s).sess.leaseTimer = s.sess.leaseTimer ∧
    (reportWithdrawn o s).sess.stack = s.sess.stack ∧
    (reportWithdrawn o s).events.sticky &&& 0xF800001F#32 = s.events.sticky &&& 0xF800001F#32 := by
  cases o <;> simp [reportWithdrawn]
@[simp] theorem reportBroken_keeps (o : Owner) (p : Parcel) (b : BrokenBy) :
    (reportBroken o p b s).link.act = s.link.act ∧ (reportBroken o p b s).link.quarantine = s.link.quarantine ∧
    (reportBroken o p b s).sess.holder = s.sess.holder ∧ (reportBroken o p b s).sess.leaseTimer = s.sess.leaseTimer ∧
    (reportBroken o p b s).sess.stack = s.sess.stack ∧
    (reportBroken o p b s).events.sticky &&& 0xF800001F#32 = s.events.sticky &&& 0xF800001F#32 := by
  cases o <;> simp [reportBroken]
@[simp] theorem holdSent_keeps (k : HoldKind) (p : Parcel) :
    (holdSent k p s).events.sticky &&& 0xF800001F#32 = s.events.sticky &&& 0xF800001F#32 := by
  cases k <;> simp [holdSent]
@[simp] theorem reportSent_keeps (o : Owner) (p : Parcel) :
    (reportSent o p s).link.act = s.link.act ∧ (reportSent o p s).link.quarantine = s.link.quarantine ∧
    (reportSent o p s).sess.holder = s.sess.holder ∧ (reportSent o p s).sess.leaseTimer = s.sess.leaseTimer ∧
    (reportSent o p s).sess.stack = s.sess.stack ∧
    (reportSent o p s).events.sticky &&& 0xF800001F#32 = s.events.sticky &&& 0xF800001F#32 := by
  cases o <;> simp [reportSent]
@[simp] theorem abandon_keeps :
    (abandon s).link.act = s.link.act ∧ (abandon s).link.quarantine = s.link.quarantine ∧
    (abandon s).sess.holder = s.sess.holder ∧ (abandon s).sess.leaseTimer = s.sess.leaseTimer ∧
    (abandon s).sess.stack = s.sess.stack ∧
    (abandon s).events.sticky &&& 0xF800001F#32 = s.events.sticky &&& 0xF800001F#32 := by
  unfold abandon; split
  all_goals simp

@[simp] theorem countFault_keeps :
    (countFault s).link.act = s.link.act ∧
    (countFault s).events.sticky &&& 0xF800001F#32 = s.events.sticky &&& 0xF800001F#32 := by
  simp [countFault]
/-- A fault ends no quarantine (R42). -/
theorem countFault_quarantine (h : s.link.quarantine = true) : (countFault s).link.quarantine = true := by
  simp [countFault, h]
@[simp] theorem nodeConflict_named :
    (nodeConflict s).events.sticky &&& 0xF800001F#32 = s.events.sticky &&& 0xF800001F#32 := by
  simp [nodeConflict]
@[simp] theorem sentOk_keeps :
    (sentOk s).link.act = s.link.act ∧ (sentOk s).link.quarantine = s.link.quarantine ∧
    (sentOk s).events.sticky &&& 0xF800001F#32 = s.events.sticky &&& 0xF800001F#32 := by
  simp [sentOk]

/-! ## The end of an event. A selection begins to contend, or leaves the link state as it is; no start check gives ACKED or
REFUSED (R51). -/

theorem startCheck_outcome {s : State} {n : SlotId} {o : CallOutcome} (check : s.startCheck n = some o) :
    o ≠ .acked ∧ o ≠ .refused := by
  simp only [State.startCheck] at check
  repeat' split at check
  all_goals cases check <;> simp

@[simp] theorem beginContention_link (o : Owner) (p : Parcel) :
    (beginContention o p s).link.act = .contending o p ∧
    (beginContention o p s).link.quarantine = s.link.quarantine := by
  simp [beginContention]
@[simp] theorem startCall_keeps (n : SlotId) :
    (startCall n s).link.act = .contending .call (s.callParcel n) ∧
    (startCall n s).link.quarantine = s.link.quarantine ∧
    (startCall n s).sess.holder = s.sess.holder ∧ (startCall n s).sess.leaseTimer = s.sess.leaseTimer ∧
    (startCall n s).sess.stack = s.sess.stack := by
  simp [startCall]

@[simp] theorem selectLoop_keeps (fuel : Nat) :
    (selectLoop fuel s).link.quarantine = s.link.quarantine ∧
    (selectLoop fuel s).sess.holder = s.sess.holder ∧ (selectLoop fuel s).sess.leaseTimer = s.sess.leaseTimer ∧
    (selectLoop fuel s).sess.stack = s.sess.stack ∧
    (selectLoop fuel s).events.sticky &&& 0xF800001F#32 = s.events.sticky &&& 0xF800001F#32 := by
  induction fuel generalizing s with
  | zero => simp [selectLoop]
  | succ fuel ih =>
    unfold selectLoop
    split
    · simp
    · split
      · simp
      · split
        · rename_i n _ _ o check
          obtain ⟨acked, refused⟩ := startCheck_outcome check
          have stack : (failStart n o s).sess.stack = s.sess.stack := by
            simp [failStart, decideOutcome_stack_other, acked, refused]
          simp [ih, stack]
        · simp
theorem selectLoop_act (fuel : Nat) :
    (selectLoop fuel s).link.act = s.link.act ∨ ∃ o p, (selectLoop fuel s).link.act = .contending o p := by
  induction fuel generalizing s with
  | zero => exact .inl rfl
  | succ fuel ih =>
    unfold selectLoop
    split
    · exact .inr ⟨_, _, (beginContention_link s _ _).1⟩
    · split
      · exact .inl rfl
      · split
        · rename_i n _ _ o _
          simpa using ih (failStart n o s)
        · exact .inr ⟨_, _, (startCall_keeps s _).1⟩
@[simp] theorem select_keeps :
    (select s).link.quarantine = s.link.quarantine ∧
    (select s).sess.holder = s.sess.holder ∧ (select s).sess.leaseTimer = s.sess.leaseTimer ∧
    (select s).sess.stack = s.sess.stack ∧
    (select s).events.sticky &&& 0xF800001F#32 = s.events.sticky &&& 0xF800001F#32 := by
  unfold select; split <;> simp
/-- A selection begins a contention out of IDLE with the controller not dozing, or changes no link state (R27, R43). -/
theorem select_act : (select s).link.act = s.link.act ∨
    (s.link.act = .idle ∧ s.doze.state ≠ .dozing ∧ ∃ o p, (select s).link.act = .contending o p) := by
  unfold select
  split
  · rename_i h
    obtain ⟨idle, -, awake⟩ := h
    exact (selectLoop_act s _).imp_right fun contends => ⟨idle, awake, contends⟩
  · exact .inl rfl
theorem select_off : (select s).link.act = .off ↔ s.link.act = .off := by
  obtain same | ⟨idle, -, o, p, contends⟩ := select_act s
  · rw [same]
  · simp [idle, contends]

@[simp] theorem enterDoze_named :
    (enterDoze s).events.sticky &&& 0xF800001F#32 = s.events.sticky &&& 0xF800001F#32 := by
  unfold enterDoze; split <;> simp
theorem endEvent_link : (endEvent s).link = (select s).link := by simp [endEvent]
@[simp] theorem endEvent_keeps :
    ((endEvent s).link.act = .off ↔ s.link.act = .off) ∧ (endEvent s).link.quarantine = s.link.quarantine ∧
    (endEvent s).sess.holder = s.sess.holder ∧ (endEvent s).sess.leaseTimer = s.sess.leaseTimer ∧
    (endEvent s).sess.stack = s.sess.stack ∧
    (endEvent s).events.sticky &&& 0xF800001F#32 = s.events.sticky &&& 0xF800001F#32 := by
  simp [endEvent, select_off]

/-! ## Intake (R88) -/

@[simp] theorem applyHold_named (p : Parcel) :
    (applyHold p s).events.sticky &&& 0xF800001F#32 = s.events.sticky &&& 0xF800001F#32 := by
  unfold applyHold; split <;> simp
@[simp] theorem wakeByLine_named (c : WakeCause) :
    (wakeByLine c s).events.sticky &&& 0xF800001F#32 = s.events.sticky &&& 0xF800001F#32 := by
  simp [wakeByLine, wakeUp]
@[simp] theorem dozeRouse_named :
    (dozeRouse s).events.sticky &&& 0xF800001F#32 = s.events.sticky &&& 0xF800001F#32 := by
  unfold dozeRouse; repeat' split
  all_goals simp
@[simp] theorem wakeByFilter_named (i : Fin 4) :
    (wakeByFilter i s).events.sticky &&& 0xF800001F#32 = s.events.sticky &&& 0xF800001F#32 := by
  simp [wakeByFilter]
@[simp] theorem servePut_named (h : IdHit) (p : Parcel) :
    (servePut h p s).2.events.sticky &&& 0xF800001F#32 = s.events.sticky &&& 0xF800001F#32 := by
  unfold servePut; repeat' split
  all_goals simp
@[simp] theorem serveSwap_keeps (p : Parcel) :
    (serveSwap p s).2.2.sess = s.sess ∧
    (serveSwap p s).2.2.events.sticky &&& 0xF800001F#32 = s.events.sticky &&& 0xF800001F#32 := by
  unfold serveSwap; dsimp only; repeat' split
  all_goals simp
@[simp] theorem renewLease_keeps (p : Parcel) (v : Served) :
    (renewLease p v s).sess.holder = s.sess.holder ∧ (renewLease p v s).sess.stack = s.sess.stack := by
  unfold renewLease; split <;> simp
@[simp] theorem finishCall_keeps (p : Parcel) (v : Served) :
    (finishCall p v s).2.sess.holder = s.sess.holder ∧ (finishCall p v s).2.sess.stack = s.sess.stack := by
  simp [finishCall]
@[simp] theorem serveClaim_keeps (p : Parcel) :
    (serveClaim p s).2.sess.stack = s.sess.stack ∧
    (serveClaim p s).2.events.sticky &&& 0xF800001F#32 = s.events.sticky &&& 0xF800001F#32 := by
  unfold serveClaim; repeat' split
  all_goals simp
@[simp] theorem serveRelease_keeps (p : Parcel) :
    (serveRelease p s).2.sess.stack = s.sess.stack ∧
    (serveRelease p s).2.events.sticky &&& 0xF800001F#32 = s.events.sticky &&& 0xF800001F#32 := by
  unfold serveRelease; split <;> simp
@[simp] theorem serveUnicast_keeps (h : IdHit) (p : Parcel) :
    (serveUnicast h p s).2.sess.holder = s.sess.holder ∧ (serveUnicast h p s).2.sess.stack = s.sess.stack ∧
    (serveUnicast h p s).2.events.sticky &&& 0xF800001F#32 = s.events.sticky &&& 0xF800001F#32 := by
  unfold serveUnicast; repeat' split
  all_goals simp
@[simp] theorem intakeFromClaim_keeps (h : IdHit) (p : Parcel) :
    (intakeFromClaim h p s).2.sess.stack = s.sess.stack ∧
    (intakeFromClaim h p s).2.events.sticky &&& 0xF800001F#32 = s.events.sticky &&& 0xF800001F#32 := by
  unfold intakeFromClaim; repeat' split
  all_goals simp
@[simp] theorem intakeRouse_keeps (h : IdHit) (p : Parcel) :
    (intakeRouse h p s).2.sess.holder = s.sess.holder ∧ (intakeRouse h p s).2.sess.stack = s.sess.stack ∧
    (intakeRouse h p s).2.events.sticky &&& 0xF800001F#32 = s.events.sticky &&& 0xF800001F#32 := by
  unfold intakeRouse; split <;> simp
@[simp] theorem intakeDozing_keeps (h : IdHit) (p : Parcel) :
    (intakeDozing h p s).2.sess.stack = s.sess.stack ∧
    (intakeDozing h p s).2.events.sticky &&& 0xF800001F#32 = s.events.sticky &&& 0xF800001F#32 := by
  unfold intakeDozing; repeat' split
  all_goals simp
@[simp] theorem intake_keeps (p : Parcel) :
    (intake p s).2.sess.stack = s.sess.stack ∧
    (intake p s).2.events.sticky &&& 0xF800001F#32 = s.events.sticky &&& 0xF800001F#32 := by
  unfold intake; repeat' split
  all_goals simp
@[simp] theorem dispose_keeps (w : Bool) (r : RxResult) :
    (dispose w r s).2.sess.stack = s.sess.stack ∧
    (dispose w r s).2.events.sticky &&& 0xF800001F#32 = s.events.sticky &&& 0xF800001F#32 := by
  unfold dispose; repeat' split
  all_goals simp
@[simp] theorem countReception_named (r : RxResult) :
    (countReception r s).events.sticky &&& 0xF800001F#32 = s.events.sticky &&& 0xF800001F#32 := by
  cases r <;> simp [countReception]
@[simp] theorem endWindow_keeps (own : Parcel) (r : RxResult) :
    (endWindow own r s).link.act = s.link.act ∧ (endWindow own r s).link.quarantine = s.link.quarantine ∧
    (endWindow own r s).sess.holder = s.sess.holder ∧ (endWindow own r s).sess.leaseTimer = s.sess.leaseTimer ∧
    (endWindow own r s).events.sticky &&& 0xF800001F#32 = s.events.sticky &&& 0xF800001F#32 := by
  unfold endWindow; split <;> simp

end Sys2Proof.Linkage
end

section
/-! The rows of the table as effects on the state in which their events find the controller, and the one induction over a
step: what the effects and the end of an event keep, every step keeps. -/

namespace Sys2Proof.Linkage

open Sys2Proof.Machine Sys2Proof.Safety

/-! ## Rows as effects -/

/-- What a line event does (R132, order 1). -/
def lineEffect : Instr → Option (State → State)
  | .leadMark => some onLeadMark
  | .parcelReceived items => some (onParcel items)
  | .contentionWon => some onContentionWon
  | .arbitrationLoss => some onArbitrationLoss
  | .bitClash b => some (onBitClash b)
  | .markFault => some onMarkFault
  | .sentCleanly => some onSentCleanly
  | .answerSent => some onAnswerSent
  | .answerStart => some onAnswerStart
  | .answerWindowExpiry => some onWindowExpiry
  | .quietGapEnd => some onQuietGapEnd
  | .lineHigh => some onLineHigh
  | .strayPulse b => some (onStrayPulse b)
  | _ => none

/-- A command of section 12.3: its code, and the result, the value and the state it gives (R165). -/
def commandOf : Instr → Option (BitVec 8 × (State → CmdOut))
  | .submit e => some (0x01, cmdSubmit e)
  | .cancel a => some (0x02, cmdCancel a)
  | .retire a => some (0x03, cmdRetire a)
  | .cqPop => some (0x04, cmdCqPop)
  | .flushClass a => some (0x05, cmdFlushClass a)
  | .tagReset a => some (0x06, cmdTagReset a)
  | .inboxPop a => some (0x08, cmdInboxPop a)
  | .inboxFlush a => some (0x09, cmdInboxFlush a)
  | .tableRead a => some (0x0C, cmdTableRead a)
  | .tableWrite a => some (0x0D, cmdTableWrite a)
  | .publish a => some (0x10, cmdPublish a)
  | .publishForce a => some (0x11, cmdPublishForce a)
  | .withdraw a => some (0x12, cmdWithdraw a)
  | .absorb a => some (0x13, cmdAbsorb a)
  | .holdSend a => some (0x18, cmdHoldSend a)
  | .sessionDrop => some (0x1C, cmdSessionDrop)
  | .breakClaim => some (0x1D, cmdBreakClaim)
  | .doze => some (0x20, cmdDoze)
  | .wake e => some (0x21, cmdWake e)
  | .linkRestart => some (0x24, cmdLinkRestart)
  | .quarantineClear => some (0x25, cmdQuarantineClear)
  | .countersClear => some (0x28, cmdCountersClear)
  | _ => none

/-- The row that a write of this register is, for the registers that hold the configuration and the board (R164). -/
def registerRow (r : Reg) (w : Word) : Option Instr :=
  match r with
  | .ident => some (.identWrite w)
  | .linkcfg => some (.linkcfgWrite w)
  | .tickdiv => some (.tickdivWrite w)
  | .quota => some (.quotaWrite w)
  | .routecfg => some (.routecfgWrite w)
  | .hmark n => some (.hmarkWrite n w)
  | .holdcfg => some (.holdcfgWrite .holdcfg w)
  | .holdmrg => some (.holdcfgWrite .holdmrg w)
  | .dozecfg => some (.dozecfgWrite w)
  | .board n => some (.boardWrite n w)
  | _ => none

/-- The rows that are host accesses, with what each does to the state in which it finds the controller (R132, order 9). -/
inductive HostAct : Instr → (State → State) → Prop
  | command {c : Instr} {code : BitVec 8} {f : State → CmdOut} (h : commandOf c = some (code, f)) :
      HostAct c fun t => finishCommand code (f t)
  | badCode (code : BitVec 8) : HostAct (.badCode code) fun t => finishCommand code (runCommand code 0 t)
  | softReset : HostAct .softReset softReset
  | enable (f : SctlFields) : HostAct (.linkEnable f) fun t => enableLink (writeFields f t)
  | disable (f : SctlFields) : HostAct (.linkDisable f) fun t => disableLink (writeFields f t)
  | clear (w : Word) (e : Edge) : HostAct (.evstWrite w e) fun t =>
      evstClear w (match e with | .own => 0 | .shared => t.events.edgeRaised) t
  | read : HostAct .evstReadClear evstRead
  | register {c : Instr} {r : Reg} {w : Word} (h : registerRow r w = some c) : HostAct c (writeReg r w)
  | any (off : BitVec 10) (w : Word) : HostAct (.registerWrite off w) (writeOffset off w)

/-- What the rows of the table are: line events, expiries, the entry of doze, host accesses, edges of RESET#. -/
inductive RowKind : Instr → Prop
  | line {c : Instr} {f : State → State} (h : lineEffect c = some f) : RowKind c
  | expiry (e : Expiry) : RowKind e.row
  | dozeEntered : RowKind .dozeEntered
  | host {c : Instr} {f : State → State} (h : HostAct c f) : RowKind c
  | reset : RowKind .reset
  | powerOn : RowKind .powerOn

theorem rowKind : ∀ c : Instr, RowKind c
  | .leadMark | .parcelReceived _ | .contentionWon | .arbitrationLoss | .bitClash _ | .markFault | .sentCleanly
  | .answerSent | .answerStart | .answerWindowExpiry | .quietGapEnd | .lineHigh | .strayPulse _ => .line rfl
  | .incomingHoldExpiry c => .expiry (.hold c)
  | .backoffExpiry c => .expiry (.backoff c)
  | .refreshTimerExpiry => .expiry .refresh
  | .leaseExpiry => .expiry .lease
  | .mirrorExpiry k => .expiry (.mirror k)
  | .stuckTimerExpiry => .expiry .stuck
  | .dozeIdleExpiry => .expiry .dozeIdle
  | .dozeEntered => .dozeEntered
  | .submit _ | .cancel _ | .retire _ | .cqPop | .flushClass _ | .tagReset _ | .inboxPop _ | .inboxFlush _
  | .tableRead _ | .tableWrite _ | .publish _ | .publishForce _ | .withdraw _ | .absorb _ | .holdSend _
  | .sessionDrop | .breakClaim | .doze | .wake _ | .linkRestart | .quarantineClear | .countersClear =>
    .host (.command rfl)
  | .badCode code => .host (.badCode code)
  | .softReset => .host .softReset
  | .linkEnable f => .host (.enable f)
  | .linkDisable f => .host (.disable f)
  | .evstWrite w e => .host (.clear w e)
  | .evstReadClear => .host .read
  | .boardWrite n _ => .host (.register (r := .board n) rfl)
  | .identWrite _ => .host (.register (r := .ident) rfl)
  | .linkcfgWrite _ => .host (.register (r := .linkcfg) rfl)
  | .tickdivWrite _ => .host (.register (r := .tickdiv) rfl)
  | .quotaWrite _ => .host (.register (r := .quota) rfl)
  | .routecfgWrite _ => .host (.register (r := .routecfg) rfl)
  | .hmarkWrite n _ => .host (.register (r := .hmark n) rfl)
  | .holdcfgWrite .holdcfg _ => .host (.register (r := .holdcfg) rfl)
  | .holdcfgWrite .holdmrg _ => .host (.register (r := .holdmrg) rfl)
  | .dozecfgWrite _ => .host (.register (r := .dozecfg) rfl)
  | .registerWrite off w => .host (.any off w)
  | .reset => .reset
  | .powerOn => .powerOn

section
variable {c : Instr} {s : State}

theorem exec_of_line {f : State → State} (h : lineEffect c = some f) : exec c s = done (lineEvent f s) := by
  cases c <;> cases h <;> rfl

theorem exec_of_command {code : BitVec 8} {f : State → CmdOut} (h : commandOf c = some (code, f)) :
    exec c s = commandEvent code f s := by
  cases c <;> cases h <;> rfl

theorem exec_of_register {r : Reg} {w : Word} (h : registerRow r w = some c) :
    exec c s = writeEvent (writeReg r w) s := by
  cases r <;> cases h <;> rfl

/-- A host access, but for a read of EVST while RESET# is low. -/
theorem exec_of_host {f : State → State} (h : HostAct c f) (high : s.inReset = false ∨ c ≠ .evstReadClear) :
    exec c s = done (hostEvent f s) := by
  cases h with
  | command h => exact exec_of_command h
  | register h => exact exec_of_register h
  | badCode => rfl
  | softReset => rfl
  | enable => rfl
  | disable => rfl
  | clear => rfl
  | any => rfl
  | read =>
    have high : s.inReset = false := by simpa using high
    simp [exec, execEvstReadClear, high, writeEvent]

/-- While RESET# is low a read of EVST returns 0 (R158). -/
theorem exec_evstReadClear_low (low : s.inReset = true) :
    exec .evstReadClear s = .next (updHost (fun r => { r with readData := 0 }) s) := by
  simp [exec, execEvstReadClear, low, done]

/-- What a row gives as a command; a code that names none is BAD_CODE (R165). -/
def commandResult (s : State) (c : Instr) : CmdOut :=
  match commandOf c with
  | some (_, f) => f s
  | none => refuse .badCode s

theorem runCommand_eq (code : BitVec 8) (arg : BitVec 24) :
    runCommand code arg s = commandResult s (decodeCommand code arg) := by
  unfold runCommand decodeCommand
  simp only [apply_ite (commandResult s)]
  rfl

end

/-! ## What every step keeps -/

/-- `P` is kept by every step, by way of what `Q` says of it between the effect of an event and the event's end. -/
structure Kept (P Q : State → Prop) : Prop where
  line : ∀ {c f s}, lineEffect c = some f → P s → Q (f s)
  expiry : ∀ {e : Expiry} {s}, P s → Q (e.effect s)
  dozes : ∀ {s}, P s → Q (enterDoze s)
  host : ∀ {c f s}, HostAct c f → P s → Q (f s)
  ends : ∀ {s}, Q s → P (endEvent s)
  drops : ∀ {s}, P s → P (dropAnswer s)
  marks : ∀ {s}, P s → P (markEdge s)
  clears : ∀ {s}, P s → P (clearEdge s)
  cycles : ∀ {s}, P s → P (nextEdge s)
  pin : ∀ {s}, P s → P (followPin s)
  resets : ∀ {low s}, P (hardReset low s)
  waits : ∀ {s rest}, P s → P { s with pending := rest }
  reads : ∀ {s}, P s → P (updHost (fun r => { r with readData := 0 }) s)

namespace Kept

variable {P Q : State → Prop} (k : Kept P Q)
include k

theorem timerEvent {f : State → State} {s : State} (effect : ∀ {u}, P u → Q (f u)) (p : P s) :
    P (timerEvent f s) := by
  unfold Machine.timerEvent unlessReset
  split
  · exact p
  · exact k.ends (effect (k.marks (k.drops p)))

theorem expireDue {s : State} (p : P s) : P (expireDue s) := by
  have expire (t : State) (q : P t) (e : Expiry) : P (expire t e) := by
    unfold Machine.expire
    split
    · exact k.timerEvent k.expiry q
    · exact q
  have all (l : List Expiry) : ∀ t : State, P t → P (l.foldl Machine.expire t) := by
    induction l with
    | nil => exact fun _ q => q
    | cons e l ih => exact fun t q => ih _ (expire t q e)
  exact all expiries _ (k.drops p)

theorem lineEvent {f : State → State} {s : State} (effect : ∀ {u}, P u → Q (f u)) (p : P s) : P (lineEvent f s) := by
  unfold Machine.lineEvent unlessReset
  split
  · exact p
  · refine k.ends (effect (k.marks ?_))
    split
    · exact k.clears (k.expireDue p)
    · exact p

theorem hostEvent {f : State → State} {s : State} (effect : ∀ {u}, P u → Q (f u)) (p : P s) : P (hostEvent f s) := by
  unfold Machine.hostEvent unlessReset
  split
  · exact p
  · exact k.clears (k.ends (effect (k.expireDue p)))

theorem exec {c : Instr} {s t : State} (h : exec c s = .next t) (p : P s) : P t := by
  have given {u : State} (e : Machine.exec c s = .next u) (q : P u) : P t := by
    obtain rfl : t = u := by rw [h] at e; exact Host.Outcome.next.inj e
    exact q
  cases rowKind c with
  | line row => exact given (exec_of_line row) (k.lineEvent (k.line row) p)
  | expiry e => exact given (exec_expiry s e) (k.timerEvent k.expiry p)
  | dozeEntered => exact given rfl (k.timerEvent k.dozes p)
  | host act =>
    by_cases read : s.inReset = true ∧ c = .evstReadClear
    · obtain ⟨low, rfl⟩ := read
      exact given (exec_evstReadClear_low low) (k.reads p)
    · exact given (exec_of_host act (by simpa [or_iff_not_imp_left] using read)) (k.hostEvent (k.host act) p)
  | reset =>
    refine given (exec_reset s) ?_
    split <;> exact k.resets
  | powerOn => exact given (exec_powerOn s) k.resets

theorem step {s t : State} (h : step s = .next t) (p : P s) : P t := by
  unfold Machine.step at h
  split at h
  · obtain rfl := Host.Outcome.next.inj h
    unfold tick
    split
    · exact k.pin p
    · split
      · exact k.expireDue p
      · exact k.cycles p
  · exact k.exec h (k.waits p)

end Kept

end Sys2Proof.Linkage
end

section
/-! What line events and expiries leave alone. -/

namespace Sys2Proof.Linkage

open Sys2Proof.Machine Sys2Proof.Safety

/-- What every line event leaves: the configuration and the host's registers, the link off or enabled, no own parcel where
there was none, a quarantine, and 0 in the bits of EVST without a name. -/
structure LineFrame (s t : State) : Prop where
  cfg : t.cfg = s.cfg
  host : t.host = s.host
  off : t.link.act = .off ↔ s.link.act = .off
  own : ownParcel t.link.act = true → ownParcel s.link.act = true
  quarantine : s.link.quarantine = true → t.link.quarantine = true
  named : t.events.sticky &&& 0xF800001F#32 = s.events.sticky &&& 0xF800001F#32

/-- What every line event but the end of a reception leaves besides: the board, the claims of both sides, and the Doze
Unit. -/
structure SendFrame (s t : State) : Prop extends LineFrame s t where
  board : t.board = s.board
  holder : t.sess.holder = s.sess.holder
  lease : t.sess.leaseTimer = s.sess.leaseTimer
  stack : t.sess.stack = s.sess.stack
  doze : t.doze = s.doze

theorem lineFrame_iff {s t : State} : LineFrame s t ↔ t.cfg = s.cfg ∧ t.host = s.host ∧
    (t.link.act = .off ↔ s.link.act = .off) ∧ (ownParcel t.link.act = true → ownParcel s.link.act = true) ∧
    (s.link.quarantine = true → t.link.quarantine = true) ∧
    t.events.sticky &&& 0xF800001F#32 = s.events.sticky &&& 0xF800001F#32 :=
  ⟨fun ⟨a, b, c, d, e, f⟩ => ⟨a, b, c, d, e, f⟩, fun ⟨a, b, c, d, e, f⟩ => ⟨a, b, c, d, e, f⟩⟩
theorem sendFrame_iff {s t : State} : SendFrame s t ↔ LineFrame s t ∧ t.board = s.board ∧
    t.sess.holder = s.sess.holder ∧ t.sess.leaseTimer = s.sess.leaseTimer ∧ t.sess.stack = s.sess.stack ∧
    t.doze = s.doze :=
  ⟨fun ⟨a, b, c, d, e, f⟩ => ⟨a, b, c, d, e, f⟩, fun ⟨a, b, c, d, e, f⟩ => ⟨a, b, c, d, e, f⟩⟩

theorem LineFrame.refl (s : State) : LineFrame s s := ⟨rfl, rfl, .rfl, id, id, rfl⟩
theorem SendFrame.refl (s : State) : SendFrame s s := ⟨.refl s, rfl, rfl, rfl, rfl, rfl⟩

section
variable (s : State)

theorem onLeadMark_frame : SendFrame s (onLeadMark s) ∧ (onLeadMark s).hold = s.hold := by
  unfold onLeadMark
  repeat' split
  all_goals simp_all [sendFrame_iff, lineFrame_iff, ownParcel]

theorem onContentionWon_frame : SendFrame s (onContentionWon s) ∧ (onContentionWon s).hold = s.hold := by
  unfold onContentionWon
  repeat' split
  all_goals simp_all [sendFrame_iff, lineFrame_iff, ownParcel]

theorem onArbitrationLoss_frame : SendFrame s (onArbitrationLoss s) ∧ (onArbitrationLoss s).hold = s.hold := by
  unfold onArbitrationLoss
  repeat' split
  all_goals simp_all [sendFrame_iff, lineFrame_iff, ownParcel]

theorem onBitClash_frame (b : Nat) : SendFrame s (onBitClash b s) ∧ (onBitClash b s).hold = s.hold := by
  unfold onBitClash
  repeat' split
  all_goals simp_all [sendFrame_iff, lineFrame_iff, ownParcel, countFault_quarantine]

theorem onMarkFault_frame : SendFrame s (onMarkFault s) ∧ (onMarkFault s).hold = s.hold := by
  unfold onMarkFault
  repeat' split
  all_goals simp_all [sendFrame_iff, lineFrame_iff, ownParcel, countFault_quarantine]

theorem onSentCleanly_frame : SendFrame s (onSentCleanly s) := by
  unfold onSentCleanly
  repeat' split
  all_goals simp_all [sendFrame_iff, lineFrame_iff, ownParcel]

theorem onAnswerSent_frame : SendFrame s (onAnswerSent s) ∧ (onAnswerSent s).hold = s.hold := by
  unfold onAnswerSent
  repeat' split
  all_goals simp_all [sendFrame_iff, lineFrame_iff, ownParcel]

theorem onAnswerStart_frame : SendFrame s (onAnswerStart s) ∧ (onAnswerStart s).hold = s.hold := by
  unfold onAnswerStart
  repeat' split
  all_goals simp_all [sendFrame_iff, lineFrame_iff, ownParcel, dropAnswer]

theorem onWindowExpiry_frame : SendFrame s (onWindowExpiry s) ∧ (onWindowExpiry s).hold = s.hold := by
  unfold onWindowExpiry
  repeat' split
  all_goals simp_all [sendFrame_iff, lineFrame_iff, ownParcel]

theorem onQuietGapEnd_frame : SendFrame s (onQuietGapEnd s) ∧ (onQuietGapEnd s).hold = s.hold := by
  unfold onQuietGapEnd
  repeat' split
  all_goals simp_all [sendFrame_iff, lineFrame_iff, ownParcel]

theorem onLineHigh_frame : SendFrame s (onLineHigh s) ∧ (onLineHigh s).hold = s.hold := by
  unfold onLineHigh
  repeat' split
  all_goals simp_all [sendFrame_iff, lineFrame_iff, ownParcel]

theorem onStrayPulse_frame (b : Bool) : SendFrame s (onStrayPulse b s) ∧ (onStrayPulse b s).hold = s.hold := by
  unfold onStrayPulse
  repeat' split
  all_goals simp_all [sendFrame_iff, lineFrame_iff, ownParcel]
/-! ## The end of a reception (R34 to R38) -/

theorem receptionEnds_frame (w : Option Parcel) (r : RxResult) (a : s.link.act = .listening w) :
    LineFrame s (receptionEnds w r s) := by
  have ends : LineFrame s (StrandBus.endAttempt w r (countReception r s)) := by
    cases w <;> simp [StrandBus.endAttempt, lineFrame_iff]
  rcases d : dispose w.isSome r (StrandBus.endAttempt w r (countReception r s)) with ⟨answer, u⟩
  obtain ⟨cfg, host, -, -, quarantine, named⟩ : LineFrame s u := by
    obtain rfl : (dispose w.isSome r (StrandBus.endAttempt w r (countReception r s))).2 = u := by rw [d]
    simpa [lineFrame_iff] using ends
  cases answer with
  | none =>
    rw [StrandBus.receptionEnds_unanswered d]
    simpa [lineFrame_iff, ownParcel, a, cfg, host, named] using quarantine
  | some p =>
    rw [StrandBus.receptionEnds_answered d]
    simpa [lineFrame_iff, ownParcel, a, cfg, host, named] using quarantine

theorem onParcel_frame (items : List LineItem) : LineFrame s (onParcel items s) := by
  unfold onParcel
  split
  · split
    · exact receptionEnds_frame s _ _ ‹_›
    · exact .refl s
  · exact .refl s

end

/-- A line event ends a reception, or leaves what a `SendFrame` says; of these only the end of an own parcel changes the
Hold Unit (R124). -/
theorem line_cases {c : Instr} {f : State → State} (h : lineEffect c = some f) :
    (∃ items, c = .parcelReceived items ∧ f = onParcel items) ∨
      ∀ s, SendFrame s (f s) ∧ ((f s).hold = s.hold ∨ f = onSentCleanly) := by
  cases c <;> cases h
  case parcelReceived items => exact .inl ⟨items, rfl, rfl⟩
  case sentCleanly => exact .inr fun s => ⟨onSentCleanly_frame s, .inr rfl⟩
  case leadMark => exact .inr fun s => (onLeadMark_frame s).imp_right .inl
  case contentionWon => exact .inr fun s => (onContentionWon_frame s).imp_right .inl
  case arbitrationLoss => exact .inr fun s => (onArbitrationLoss_frame s).imp_right .inl
  case bitClash b => exact .inr fun s => (onBitClash_frame s b).imp_right .inl
  case markFault => exact .inr fun s => (onMarkFault_frame s).imp_right .inl
  case answerSent => exact .inr fun s => (onAnswerSent_frame s).imp_right .inl
  case answerStart => exact .inr fun s => (onAnswerStart_frame s).imp_right .inl
  case answerWindowExpiry => exact .inr fun s => (onWindowExpiry_frame s).imp_right .inl
  case quietGapEnd => exact .inr fun s => (onQuietGapEnd_frame s).imp_right .inl
  case lineHigh => exact .inr fun s => (onLineHigh_frame s).imp_right .inl
  case strayPulse b => exact .inr fun s => (onStrayPulse_frame s b).imp_right .inl

theorem line_frame {c : Instr} {f : State → State} (h : lineEffect c = some f) (s : State) : LineFrame s (f s) := by
  obtain ⟨items, -, rfl⟩ | other := line_cases h
  · exact onParcel_frame s items
  · exact (other s).1.toLineFrame

/-- What every expiry leaves: as `LineFrame`, and the board, the nodes, identities and leases of the Session Stack, and the
holder of the claim but at the lease's end (R82). -/
theorem expiry_frame (e : Expiry) (s : State) : LineFrame s (e.effect s) ∧ (e.effect s).board = s.board := by
  cases e with
  | stuck =>
    simp only [Expiry.effect, onStuckExpiry]
    split <;> simp_all [lineFrame_iff, ownParcel, State.stuckCanExpire]
  | lease =>
    simp only [Expiry.effect, onLeaseExpiry]
    split <;> simp [lineFrame_iff]
  | refresh =>
    simp only [Expiry.effect, onRefreshExpiry]
    split <;> simp [lineFrame_iff]
  | hold c =>
    simp only [Expiry.effect, onHoldExpiry]
    split <;> simp [lineFrame_iff]
  | mirror k =>
    simp only [Expiry.effect, onMirrorExpiry]
    split <;> simp [lineFrame_iff]
  | backoff c => simp [Expiry.effect, onBackoffExpiry, lineFrame_iff]
  | dozeIdle =>
    simp only [Expiry.effect, onDozeIdleExpiry]
    split <;> simp [lineFrame_iff]

theorem enterDoze_lineFrame (s : State) : LineFrame s (enterDoze s) := by simp [lineFrame_iff]

end Sys2Proof.Linkage
end

section
/-! What the commands leave alone (section 12.3). -/

namespace Sys2Proof.Linkage

open Sys2Proof.Machine Sys2Proof.Safety

/-- The commands that change the Hold Unit (R105, R127). -/
def changesHold : Instr → Bool
  | .inboxPop _ | .inboxFlush _ | .holdSend _ => true
  | _ => false
/-- The commands that change the Doze Unit (R142, R146, R147). -/
def changesDoze : Instr → Bool
  | .submit _ | .doze | .wake _ => true
  | _ => false
/-- The commands that change a committed value (R114, R115). -/
def changesCommitted : Instr → Bool
  | .publish _ | .publishForce _ => true
  | _ => false
/-- The command that changes the configuration (R166). -/
def changesTables : Instr → Bool
  | .tableWrite _ => true
  | _ => false

/-- What a command leaves, by the pieces of state that the rules give it. -/
structure CommandFrame (c : Instr) (s t : State) : Prop where
  stageh : t.host.stageh = s.host.stageh
  named : t.events.sticky &&& 0xF800001F#32 = s.events.sticky &&& 0xF800001F#32
  cfg : changesTables c = false → t.cfg = s.cfg
  link : c ≠ .linkRestart → c ≠ .quarantineClear → t.link = s.link
  claim : c ≠ .breakClaim → t.sess.holder = s.sess.holder ∧ t.sess.leaseTimer = s.sess.leaseTimer
  stack : c ≠ .sessionDrop → t.sess.stack = s.sess.stack
  hold : changesHold c = false → t.hold = s.hold
  doze : changesDoze c = false → t.doze = s.doze
  committed : changesCommitted c = false → ∀ i : Fin 64, t.board[i].committed = s.board[i].committed

theorem commandFrame_iff {c : Instr} {s t : State} : CommandFrame c s t ↔ t.host.stageh = s.host.stageh ∧
    t.events.sticky &&& 0xF800001F#32 = s.events.sticky &&& 0xF800001F#32 ∧
    (changesTables c = false → t.cfg = s.cfg) ∧ (c ≠ .linkRestart → c ≠ .quarantineClear → t.link = s.link) ∧
    (c ≠ .breakClaim → t.sess.holder = s.sess.holder ∧ t.sess.leaseTimer = s.sess.leaseTimer) ∧
    (c ≠ .sessionDrop → t.sess.stack = s.sess.stack) ∧ (changesHold c = false → t.hold = s.hold) ∧
    (changesDoze c = false → t.doze = s.doze) ∧
    (changesCommitted c = false → ∀ i : Fin 64, t.board[i].committed = s.board[i].committed) :=
  ⟨fun ⟨a, b, c, d, e, f, g, h, i⟩ => ⟨a, b, c, d, e, f, g, h, i⟩,
    fun ⟨a, b, c, d, e, f, g, h, i⟩ => ⟨a, b, c, d, e, f, g, h, i⟩⟩

section
variable (s : State)

@[simp] theorem submitWake_frame (e : Edge) :
    (submitWake e s).cfg = s.cfg ∧ (submitWake e s).host = s.host ∧ (submitWake e s).link = s.link ∧
    (submitWake e s).sess = s.sess ∧ (submitWake e s).hold = s.hold ∧ (submitWake e s).board = s.board ∧
    (submitWake e s).events.sticky &&& 0xF800001F#32 = s.events.sticky &&& 0xF800001F#32 := by
  unfold submitWake
  repeat' split
  all_goals simp [wakeUp]

/-- What the calls that FLUSH_CLASS completes leave (R67). -/
theorem flush_frame (c : Instr) (l : List SlotId) :
    CommandFrame c s (l.foldl (fun t n => decideOutcome n .flushed 0 t) s) := by
  induction l generalizing s with
  | nil => simp [commandFrame_iff]
  | cons n l ih => simpa [commandFrame_iff, decideOutcome_stack_other] using ih (decideOutcome n .flushed 0 s)

theorem cmdSubmit_frame (e : Edge) : CommandFrame (.submit e) s (cmdSubmit e s).2.2 := by
  unfold cmdSubmit
  repeat' split
  all_goals simp [commandFrame_iff, changesDoze, refuse, okWith]
theorem cmdCancel_frame (a : BitVec 24) : CommandFrame (.cancel a) s (cmdCancel a s).2.2 := by
  unfold cmdCancel
  repeat' split
  all_goals simp [commandFrame_iff, refuse, okWith, decideOutcome_stack_other]
theorem cmdRetire_frame (a : BitVec 24) : CommandFrame (.retire a) s (cmdRetire a s).2.2 := by
  unfold cmdRetire
  repeat' split
  all_goals simp [commandFrame_iff, refuse, okWith]
theorem cmdCqPop_frame : CommandFrame .cqPop s (cmdCqPop s).2.2 := by
  unfold cmdCqPop
  split <;> simp [commandFrame_iff, refuse, okWith]
theorem cmdFlushClass_frame (a : BitVec 24) : CommandFrame (.flushClass a) s (cmdFlushClass a s).2.2 := by
  unfold cmdFlushClass
  split
  · simp [commandFrame_iff, refuse]
  · exact flush_frame s _ _
theorem cmdTagReset_frame (a : BitVec 24) : CommandFrame (.tagReset a) s (cmdTagReset a s).2.2 := by
  unfold cmdTagReset
  dsimp only
  repeat' split
  all_goals simp [commandFrame_iff, refuse, okWith]
theorem cmdInboxPop_frame (a : BitVec 24) : CommandFrame (.inboxPop a) s (cmdInboxPop a s).2.2 := by
  unfold cmdInboxPop
  repeat' split
  all_goals simp [commandFrame_iff, refuse, setInbox, changesHold]
theorem cmdInboxFlush_frame (a : BitVec 24) : CommandFrame (.inboxFlush a) s (cmdInboxFlush a s).2.2 := by
  unfold cmdInboxFlush
  split <;> simp [commandFrame_iff, refuse, okWith, setInbox, changesHold]
@[simp] theorem advanceSel_frame (a : BitVec 24) :
    (advanceSel a s).cfg = s.cfg ∧ (advanceSel a s).host.stageh = s.host.stageh ∧ (advanceSel a s).link = s.link ∧
    (advanceSel a s).sess = s.sess ∧ (advanceSel a s).hold = s.hold ∧ (advanceSel a s).doze = s.doze ∧
    (advanceSel a s).board = s.board ∧ (advanceSel a s).events = s.events := by
  unfold advanceSel
  split <;> simp
theorem cmdTableRead_frame (a : BitVec 24) : CommandFrame (.tableRead a) s (cmdTableRead a s).2.2 := by
  unfold cmdTableRead
  split <;> simp [commandFrame_iff, refuse, okWith]
theorem cmdTableWrite_frame (a : BitVec 24) : CommandFrame (.tableWrite a) s (cmdTableWrite a s).2.2 := by
  have writes : ∀ {i j t}, s.writeEntry i j = some t → t = { s with cfg := t.cfg } := by
    intro i j t written
    unfold State.writeEntry at written
    repeat' split at written
    all_goals simp at written
    all_goals obtain ⟨r, -, rfl⟩ := written; rfl
  unfold cmdTableWrite
  split
  · simp [commandFrame_iff, refuse]
  · rename_i t written
    rw [writes written]
    simp [commandFrame_iff, okWith, changesTables]
theorem cmdPublish_frame (a : BitVec 24) : CommandFrame (.publish a) s (cmdPublish a s).2.2 := by
  unfold cmdPublish
  split <;> simp [commandFrame_iff, refuse, changesCommitted]
theorem cmdPublishForce_frame (a : BitVec 24) : CommandFrame (.publishForce a) s (cmdPublishForce a s).2.2 := by
  unfold cmdPublishForce
  split <;> simp [commandFrame_iff, refuse, okWith, changesCommitted]
theorem cmdWithdraw_frame (a : BitVec 24) : CommandFrame (.withdraw a) s (cmdWithdraw a s).2.2 := by
  unfold cmdWithdraw
  split <;> simp [commandFrame_iff, refuse, okWith, BoardEntry.withdraw, apply_ite BoardEntry.committed]
theorem cmdAbsorb_frame (a : BitVec 24) : CommandFrame (.absorb a) s (cmdAbsorb a s).2.2 := by
  unfold cmdAbsorb
  split <;> simp [commandFrame_iff, refuse, okWith, BoardEntry.absorb, apply_ite BoardEntry.committed]
theorem cmdHoldSend_frame (a : BitVec 24) : CommandFrame (.holdSend a) s (cmdHoldSend a s).2.2 := by
  unfold cmdHoldSend
  repeat' split
  all_goals simp [commandFrame_iff, refuse, okWith, changesHold]
theorem cmdSessionDrop_frame : CommandFrame .sessionDrop s (cmdSessionDrop s).2.2 := by
  unfold cmdSessionDrop
  repeat' split
  all_goals simp [commandFrame_iff, refuse, okWith]
theorem cmdBreakClaim_frame : CommandFrame .breakClaim s (cmdBreakClaim s).2.2 := by
  unfold cmdBreakClaim
  split <;> simp [commandFrame_iff, refuse, okWith]
theorem cmdDoze_frame : CommandFrame .doze s (cmdDoze s).2.2 := by
  unfold cmdDoze
  dsimp only
  repeat' split
  all_goals simp [commandFrame_iff, refuse, okWith, changesDoze]
theorem cmdWake_frame (e : Edge) : CommandFrame (.wake e) s (cmdWake e s).2.2 := by
  unfold cmdWake
  repeat' split
  all_goals simp [commandFrame_iff, refuse, okWith, changesDoze, wakeUp]
theorem cmdLinkRestart_frame : CommandFrame .linkRestart s (cmdLinkRestart s).2.2 := by
  unfold cmdLinkRestart
  repeat' split
  all_goals simp [commandFrame_iff, refuse, okWith]
theorem cmdQuarantineClear_frame : CommandFrame .quarantineClear s (cmdQuarantineClear s).2.2 := by
  unfold cmdQuarantineClear
  split <;> simp [commandFrame_iff, refuse, okWith]
theorem cmdCountersClear_frame : CommandFrame .countersClear s (cmdCountersClear s).2.2 := by
  simp [cmdCountersClear, commandFrame_iff, okWith]

end

theorem command_frame {c : Instr} {code : BitVec 8} {f : State → CmdOut} (h : commandOf c = some (code, f)) (s : State) :
    CommandFrame c s (f s).2.2 := by
  cases c <;> cases h
  case submit e => exact cmdSubmit_frame s e
  case cancel a => exact cmdCancel_frame s a
  case retire a => exact cmdRetire_frame s a
  case cqPop => exact cmdCqPop_frame s
  case flushClass a => exact cmdFlushClass_frame s a
  case tagReset a => exact cmdTagReset_frame s a
  case inboxPop a => exact cmdInboxPop_frame s a
  case inboxFlush a => exact cmdInboxFlush_frame s a
  case tableRead a => exact cmdTableRead_frame s a
  case tableWrite a => exact cmdTableWrite_frame s a
  case publish a => exact cmdPublish_frame s a
  case publishForce a => exact cmdPublishForce_frame s a
  case withdraw a => exact cmdWithdraw_frame s a
  case absorb a => exact cmdAbsorb_frame s a
  case holdSend a => exact cmdHoldSend_frame s a
  case sessionDrop => exact cmdSessionDrop_frame s
  case breakClaim => exact cmdBreakClaim_frame s
  case doze => exact cmdDoze_frame s
  case wake e => exact cmdWake_frame s e
  case linkRestart => exact cmdLinkRestart_frame s
  case quarantineClear => exact cmdQuarantineClear_frame s
  case countersClear => exact cmdCountersClear_frame s

/-- What a command's result adds to what the command leaves: CMDR, and CMD_ERROR where it is not OK (R165). -/
theorem finishCommand_frame (code : BitVec 8) (out : CmdOut) : let t := finishCommand code out
    t.cfg = out.2.2.cfg ∧ t.link = out.2.2.link ∧ t.sess = out.2.2.sess ∧ t.hold = out.2.2.hold ∧
    t.doze = out.2.2.doze ∧ t.board = out.2.2.board ∧ t.calls = out.2.2.calls ∧
    t.host.stageh = out.2.2.host.stageh ∧
    t.events.sticky &&& 0xF800001F#32 = out.2.2.events.sticky &&& 0xF800001F#32 := by
  simp [finishCommand]

end Sys2Proof.Linkage
end

section
/-! What the register writes leave alone, and host accesses by their kinds (R164). -/

namespace Sys2Proof.Linkage

open Sys2Proof.Machine Sys2Proof.Safety

/-! ## Configuration writes -/

/-- What a write of a register other than SCTL, CMDW and EVST leaves: the link, the calls, the Session Unit, the Doze Unit,
the committed values, and 0 in the bits of EVST without a name. -/
structure WriteFrame (s t : State) : Prop where
  link : t.link = s.link
  calls : t.calls = s.calls
  sess : t.sess = s.sess
  doze : t.doze = s.doze
  committed : ∀ i : Fin 64, t.board[i].committed = s.board[i].committed
  named : t.events.sticky &&& 0xF800001F#32 = s.events.sticky &&& 0xF800001F#32

theorem writeFrame_iff {s t : State} : WriteFrame s t ↔ t.link = s.link ∧ t.calls = s.calls ∧ t.sess = s.sess ∧
    t.doze = s.doze ∧ (∀ i : Fin 64, t.board[i].committed = s.board[i].committed) ∧
    t.events.sticky &&& 0xF800001F#32 = s.events.sticky &&& 0xF800001F#32 :=
  ⟨fun ⟨a, b, c, d, e, f⟩ => ⟨a, b, c, d, e, f⟩, fun ⟨a, b, c, d, e, f⟩ => ⟨a, b, c, d, e, f⟩⟩

theorem WriteFrame.refl (s : State) : WriteFrame s s := ⟨rfl, rfl, rfl, rfl, fun _ => rfl, rfl⟩

section
variable (s : State) (w : Word)

@[simp] theorem configRefused_named :
    (configRefused s).events.sticky &&& 0xF800001F#32 = s.events.sticky &&& 0xF800001F#32 := by
  simp [configRefused]

@[simp] theorem applyInEn_frame (was : Bool) :
    (applyInEn was s).cfg = s.cfg ∧ (applyInEn was s).host = s.host ∧ (applyInEn was s).link = s.link ∧
    (applyInEn was s).calls = s.calls ∧ (applyInEn was s).sess = s.sess ∧ (applyInEn was s).intake = s.intake ∧
    (applyInEn was s).board = s.board ∧ (applyInEn was s).doze = s.doze ∧ (applyInEn was s).events = s.events := by
  unfold applyInEn; split <;> simp
@[simp] theorem applyOutEn_frame (was : Bool) :
    (applyOutEn was s).cfg = s.cfg ∧ (applyOutEn was s).host = s.host ∧ (applyOutEn was s).link = s.link ∧
    (applyOutEn was s).calls = s.calls ∧ (applyOutEn was s).sess = s.sess ∧ (applyOutEn was s).intake = s.intake ∧
    (applyOutEn was s).board = s.board ∧ (applyOutEn was s).doze = s.doze ∧
    (applyOutEn was s).events = s.events := by
  unfold applyOutEn; split <;> simp

theorem writeIdent_frame : WriteFrame s (writeIdent w s) ∧ (writeIdent w s).hold = s.hold ∧
    (writeIdent w s).host = s.host := by
  unfold writeIdent; dsimp only; repeat' split
  all_goals simp [writeFrame_iff]
theorem writeLinkcfg_frame : WriteFrame s (writeLinkcfg w s) ∧ (writeLinkcfg w s).hold = s.hold ∧
    (writeLinkcfg w s).host = s.host := by
  unfold writeLinkcfg; dsimp only; split <;> simp [writeFrame_iff]
theorem writeTickdiv_frame : WriteFrame s (writeTickdiv w s) ∧ (writeTickdiv w s).hold = s.hold ∧
    (writeTickdiv w s).host = s.host := by
  unfold writeTickdiv; dsimp only; split <;> simp [writeFrame_iff]
theorem writeQuota_frame : WriteFrame s (writeQuota w s) ∧ (writeQuota w s).hold = s.hold ∧
    (writeQuota w s).host = s.host := by
  unfold writeQuota; dsimp only; split <;> simp [writeFrame_iff]
theorem writeRoutecfg_frame : WriteFrame s (writeRoutecfg w s) ∧ (writeRoutecfg w s).hold = s.hold ∧
    (writeRoutecfg w s).host = s.host := by
  unfold writeRoutecfg; split <;> simp [writeFrame_iff]
theorem writeDozecfg_frame : WriteFrame s (writeDozecfg w s) ∧ (writeDozecfg w s).hold = s.hold ∧
    (writeDozecfg w s).host = s.host := by
  unfold writeDozecfg; dsimp only; split <;> simp [writeFrame_iff]
theorem writeHmark_frame (n : Fin 4) : WriteFrame s (writeHmark n w s) ∧ (writeHmark n w s).host = s.host := by
  unfold writeHmark; dsimp only; split <;> simp [writeFrame_iff]
theorem writeHoldcfg_frame (r : HoldReg) : WriteFrame s (writeHoldcfg r w s) ∧ (writeHoldcfg r w s).host = s.host := by
  cases r <;> simp [writeHoldcfg, writeFrame_iff]
theorem writeBoard_frame (n : Fin 64) : WriteFrame s (writeBoard n w s) := by
  refine ⟨rfl, rfl, rfl, rfl, fun i => ?_, rfl⟩
  simp only [writeBoard, Fin.getElem_fin, Vector.getElem_set]
  split
  · rename_i same
    obtain rfl := Fin.ext same
    rfl
  · rfl
theorem writeBoardrd_frame (i : Fin 2) : WriteFrame s (writeBoardrd i w s) := by
  simp [writeFrame_iff, writeBoardrd, apply_ite BoardEntry.committed]
theorem writeBoardwr_frame (i : Fin 2) : WriteFrame s (writeBoardwr i w s) := by
  simp [writeFrame_iff, writeBoardwr, apply_ite BoardEntry.committed]

/-- The registers whose writes are neither commands, nor writes of SCTL, nor of EVST. -/
def isOther : Reg → Bool
  | .sctl | .cmdw | .evst => false
  | _ => true

theorem writeReg_frame (r : Reg) (other : isOther r = true) : WriteFrame s (writeReg r w s) := by
  cases r with
  | sctl | cmdw | evst => simp [isOther] at other
  | ident => exact (writeIdent_frame s w).1
  | linkcfg => exact (writeLinkcfg_frame s w).1
  | tickdiv => exact (writeTickdiv_frame s w).1
  | quota => exact (writeQuota_frame s w).1
  | routecfg => exact (writeRoutecfg_frame s w).1
  | dozecfg => exact (writeDozecfg_frame s w).1
  | hmark n => exact (writeHmark_frame s w n).1
  | holdcfg => exact (writeHoldcfg_frame s w .holdcfg).1
  | holdmrg => exact (writeHoldcfg_frame s w .holdmrg).1
  | board n => exact writeBoard_frame s w n
  | boardrd i => exact writeBoardrd_frame s w i
  | boardwr i => exact writeBoardwr_frame s w i
  | even | stageh | stage | slotsel | ibsel | tblsel | tbldata => exact ⟨rfl, rfl, rfl, rfl, fun _ => rfl, rfl⟩
  | sstat | cmdr | linkstat | slotview | cqview | ibview | ibcount | dozestat | sessview | claimview | cnt | holdview
  | boardstg | boardmod => exact .refl s

end

/-! ## Host accesses by their kinds -/

/-- What a host access keeps, by its kind: a command under any code, an undefined code, a write of SCTL, an access of EVST, a
write of another register. -/
structure HostKept (P Q : State → Prop) : Prop where
  nothing : ∀ {s}, P s → Q s
  command : ∀ {c code f s}, commandOf c = some (code, f) → P s → ∀ code, Q (finishCommand code (f s))
  undefined : ∀ {s}, P s → ∀ code, Q (finishCommand code (refuse .badCode s))
  softReset : ∀ {s}, P s → Q (softReset s)
  enable : ∀ {s}, P s → ∀ f, Q (enableLink (writeFields f s))
  disable : ∀ {s}, P s → ∀ f, Q (disableLink (writeFields f s))
  clear : ∀ {s}, P s → ∀ w keep, Q (evstClear w keep s)
  read : ∀ {s}, P s → Q (evstRead s)
  register : ∀ {s r}, isOther r = true → P s → ∀ w, Q (writeReg r w s)

namespace HostKept

variable {P Q : State → Prop} (k : HostKept P Q)
include k

theorem runCommand {s : State} (p : P s) (code : BitVec 8) (arg : BitVec 24) :
    Q (finishCommand code (runCommand code arg s)) := by
  rw [runCommand_eq, commandResult]
  split
  · exact k.command ‹_› p code
  · exact k.undefined p code

theorem writeReg {s : State} (p : P s) (r : Reg) (w : Word) : Q (writeReg r w s) := by
  cases other : isOther r with
  | true => exact k.register other p w
  | false =>
    cases r with
    | sctl =>
      simp only [Machine.writeReg, writeSctl]
      split
      · exact k.softReset p
      · split
        · exact k.enable p _
        · exact k.disable p _
    | cmdw => exact k.runCommand p _ _
    | evst => exact k.clear p w 0
    | _ => simp [isOther] at other

theorem host {c : Instr} {f : State → State} (h : HostAct c f) {s : State} (p : P s) : Q (f s) := by
  cases h with
  | command h => exact k.command h p _
  | badCode code => exact k.runCommand p code 0
  | softReset => exact k.softReset p
  | enable f => exact k.enable p f
  | disable f => exact k.disable p f
  | clear w e => exact k.clear p w _
  | read => exact k.read p
  | register h => exact k.writeReg p _ _
  | any off w =>
    unfold writeOffset
    split
    · exact k.writeReg p _ w
    · exact k.nothing p

end HostKept

end Sys2Proof.Linkage
end

section
/-! INT#, the legal configuration and the bits without a name, kept by every step (R44, R141, R151, R155). -/

namespace Sys2Proof.Linkage

open Sys2Proof.Machine Sys2Proof.Safety

/-! ## The resets (R158, R159) -/

@[simp] theorem softReset_frame (s : State) :
    (softReset s).cfg = s.cfg ∧ (softReset s).host = { s.host with cmdr := {} } ∧
    (softReset s).link = { line := s.pinAfterReset } ∧ (softReset s).calls = {} ∧ (softReset s).sess = {} ∧
    (softReset s).hold = {} ∧ (softReset s).doze = {} ∧ (softReset s).events = {} :=
  ⟨rfl, rfl, rfl, rfl, rfl, rfl, rfl, rfl⟩
@[simp] theorem hardReset_frame (low : Bool) (s : State) :
    (hardReset low s).cfg = {} ∧ (hardReset low s).host = {} ∧ (hardReset low s).link = { line := s.pinAfterReset } ∧
    (hardReset low s).calls = {} ∧ (hardReset low s).sess = {} ∧ (hardReset low s).hold = {} ∧
    (hardReset low s).doze = {} ∧ (hardReset low s).events = {} :=
  ⟨rfl, rfl, rfl, rfl, rfl, rfl, rfl, rfl⟩

/-! ## One HCLK edge to the next -/

/-- What the passage to the next HCLK edge leaves: all that no timer, no note of the edge and nothing of the pin is in, the
link in its state but for a decided answer that is given up (R39, R131). -/
structure CycleFrame (s t : State) : Prop where
  cfg : t.cfg = s.cfg
  sctl : t.sctl = s.sctl
  host : t.host = s.host
  intake : t.intake = s.intake
  calls : t.calls = { s.calls with backoff := t.calls.backoff }
  holder : t.sess.holder = s.sess.holder
  lease : s.sess.leaseTimer = none → t.sess.leaseTimer = none
  hold : t.hold = { s.hold with timers := t.hold.timers, refresh := t.hold.refresh }
  doze : t.doze = { s.doze with idle := t.doze.idle }
  idle : t.doze.idle.isSome = s.doze.idle.isSome
  act : t.link.act = (dropAnswer s).link.act
  sticky : t.events.sticky = s.events.sticky
  intLow : t.events.intLow = s.events.intLow

theorem nextEdge_frame (s : State) : CycleFrame s (nextEdge s) := by
  rw [StrandBus.nextEdge_eq, StrandBus.cycled_eq]
  constructor <;> simp [StrandBus.onEdge]

end Sys2Proof.Linkage

namespace Sys2Proof.Safety

open Sys2Proof.Machine Sys2Proof.Linkage

section
variable {s t : State}

/-! ## INT# (R155) -/

theorem IntFollows.of_eq (sctl : t.sctl = s.sctl) (even : t.cfg.even = s.cfg.even) (cq : t.calls.cq = s.calls.cq)
    (inboxes : t.intake.inboxes = s.intake.inboxes) (sticky : t.events.sticky = s.events.sticky)
    (intLow : t.events.intLow = s.events.intLow) (h : IntFollows s) : IntFollows t := by
  have levels : t.levels = s.levels := by simp only [State.levels, cq, inboxes]
  have interrupt : t.interrupt = s.interrupt := by
    rw [State.interrupt, State.interrupt, State.evst, State.evst, levels, sticky, sctl, even]
  rw [IntFollows, intLow, interrupt]
  exact h

/-- INT# follows its condition because every event ends by setting it. -/
theorem kept_intFollows : Kept IntFollows fun _ => True where
  line _ _ := trivial
  expiry _ := trivial
  dozes _ := trivial
  host _ _ := trivial
  ends _ := endEvent_intLow _
  drops := IntFollows.of_eq (by simp) (by simp) (by simp) (by simp) (by simp) (by simp)
  marks := id
  clears := id
  cycles h := by
    have frame := nextEdge_frame
    exact IntFollows.of_eq (frame _).sctl (by rw [(frame _).cfg]) (by rw [(frame _).calls]) (by rw [(frame _).intake])
      (frame _).sticky (frame _).intLow h
  pin := IntFollows.of_eq (by simp) (by simp) (by simp) (by simp) (by simp) (by simp)
  resets := rfl
  waits := id
  reads := id

/-! ## The configuration -/

theorem ConfigLegal.of_eq (h : ConfigLegal s) (cfg : t.cfg = s.cfg) (off : s.link.act = .off → t.link.act = .off) :
    ConfigLegal t := by
  obtain ⟨primary, aliasId, distinct, enabled, tickdiv, pool, marks, dozeIdle, routes, filters⟩ := h
  have on : t.linkEn = true → s.linkEn = true := by
    simpa only [State.linkEn, decide_eq_true_eq] using mt off
  constructor <;> rw [cfg]
  all_goals first | assumption | exact fun e => enabled (on e)

theorem ConfigLegal.of_line (h : ConfigLegal s) (f : LineFrame s t) : ConfigLegal t := h.of_eq f.cfg f.off.mpr

theorem ConfigLegal.writeIdent (h : ConfigLegal s) (w : Word) : ConfigLegal (writeIdent w s) := by
  unfold Machine.writeIdent
  dsimp only
  split
  · exact h.of_eq (by simp) (by simp)
  · rename_i legal
    simp only [not_or, not_and] at legal
    obtain ⟨off, distinct, primary, aliasId⟩ := legal
    have written : ConfigLegal (updCfg (fun c => { c with ident := Ident.ofWord w }) s) :=
      { h with primary := primary, aliasId := aliasId, distinct := distinct, enabled := fun e => absurd e off }
    split
    · exact written
    · exact written.of_eq rfl id

theorem ConfigLegal.writeTickdiv (h : ConfigLegal s) (w : Word) : ConfigLegal (writeTickdiv w s) := by
  unfold Machine.writeTickdiv
  dsimp only
  split
  · exact h.of_eq (by simp) (by simp)
  · rename_i legal
    simp only [not_or, not_lt] at legal
    exact { h with tickdiv := legal.2 }

theorem ConfigLegal.writeLinkcfg (h : ConfigLegal s) (w : Word) : ConfigLegal (writeLinkcfg w s) := by
  unfold Machine.writeLinkcfg
  dsimp only
  split
  · exact h.of_eq (by simp) (by simp)
  · exact { h with }

theorem ConfigLegal.writeQuota (h : ConfigLegal s) (w : Word) : ConfigLegal (writeQuota w s) := by
  unfold Machine.writeQuota
  dsimp only
  split
  · rename_i legal
    obtain ⟨-, pool, -⟩ := legal
    exact { h with pool := by simpa using pool }
  · exact h.of_eq (by simp) (by simp)

theorem ConfigLegal.writeRoutecfg (h : ConfigLegal s) (w : Word) : ConfigLegal (writeRoutecfg w s) := by
  unfold Machine.writeRoutecfg
  split
  · exact h.of_eq (by simp) (by simp)
  · exact { h with }

theorem ConfigLegal.writeDozecfg (h : ConfigLegal s) (w : Word) : ConfigLegal (writeDozecfg w s) := by
  unfold Machine.writeDozecfg
  dsimp only
  split
  · exact h.of_eq (by simp) (by simp)
  · rename_i legal
    exact { h with dozeIdle := legal }

theorem ConfigLegal.writeHmark (h : ConfigLegal s) (n : Fin 4) (w : Word) : ConfigLegal (writeHmark n w s) := by
  unfold Machine.writeHmark
  dsimp only
  split
  · exact h.of_eq (by simp) (by simp)
  · rename_i legal
    simp only [not_or, not_lt] at legal
    obtain ⟨high, highMost, low, lowMost⟩ := legal
    have positive {m : BitVec 6} (nonzero : m ≠ 0) : 1 ≤ m.toNat := by
      rw [Nat.one_le_iff_ne_zero]
      exact fun zero => nonzero (BitVec.eq_of_toNat_eq zero)
    have written : ConfigLegal (updCfg (fun d => { d with hmark := d.hmark.set n (HMark.ofWord w) }) s) := by
      refine { h with marks := fun k => ?_ }
      simp only [updCfg_cfg, Fin.getElem_fin, Vector.getElem_set]
      split
      · exact ⟨positive high, highMost, positive low, lowMost⟩
      · exact h.marks k
    exact written.of_eq (by simp) (by simp)

theorem ConfigLegal.writeHoldcfg (h : ConfigLegal s) (r : HoldReg) (w : Word) : ConfigLegal (writeHoldcfg r w s) := by
  cases r with
  | holdmrg => exact { h with }
  | holdcfg =>
    have written : ConfigLegal (updCfg (fun d => { d with holdcfg := HoldCfg.ofWord d.holdcfg.refreshMargin w }) s) :=
      { h with }
    exact written.of_eq (by simp [Machine.writeHoldcfg]) (by simp [Machine.writeHoldcfg])

/-- A table entry is stored only with a source that a node can have (R99, R149). -/
theorem ConfigLegal.writeEntry (h : ConfigLegal s) {table : BitVec 2} {i : Nat}
    (written : s.writeEntry table i = some t) : ConfigLegal t := by
  have route : ∀ {w r}, Route.ofWord w = some r → r.source ≠ 31 := by
    intro w r entry
    unfold Route.ofWord at entry
    repeat' split at entry
    all_goals cases entry
    assumption
  have filter : ∀ {w f}, WakeFilter.ofWord w = some f → f.source ≠ 31 := by
    intro w f entry
    unfold WakeFilter.ofWord at entry
    split at entry
    all_goals cases entry
    assumption
  unfold State.writeEntry at written
  split at written
  · split at written
    · obtain ⟨r, entry, rfl⟩ := Option.map_eq_some_iff.mp written
      refine { h with routes := fun k => ?_ }
      simp only [Fin.getElem_fin, Vector.getElem_set]
      split
      · exact route entry
      · exact h.routes k
    · cases written
  · split at written
    · split at written
      · obtain ⟨f, entry, rfl⟩ := Option.map_eq_some_iff.mp written
        refine { h with filters := fun k => ?_ }
        simp only [Fin.getElem_fin, Vector.getElem_set]
        split
        · exact filter entry
        · exact h.filters k
      · cases written
    · cases written

/-- The only configuration that a command changes is that of the tables (R166). -/
theorem command_cfg {c : Instr} {code : BitVec 8} {f : State → CmdOut} (is : commandOf c = some (code, f)) :
    (f s).2.2.cfg = { s.cfg with routes := (f s).2.2.cfg.routes, filters := (f s).2.2.cfg.filters } := by
  have entry : ∀ {i j t}, s.writeEntry i j = some t →
      t.cfg = { s.cfg with routes := t.cfg.routes, filters := t.cfg.filters } := by
    intro i j t written
    unfold State.writeEntry at written
    repeat' split at written
    all_goals simp at written
    all_goals obtain ⟨r, -, rfl⟩ := written; rfl
  by_cases table : ∃ a, c = .tableWrite a
  · obtain ⟨a, rfl⟩ := table
    cases is
    unfold cmdTableWrite
    split
    · rfl
    · simpa [okWith] using entry ‹_›
  · rw [(command_frame is s).cfg]
    cases c <;> simp_all [changesTables]

theorem ConfigLegal.command {c : Instr} {code : BitVec 8} {f : State → CmdOut} (is : commandOf c = some (code, f))
    (h : ConfigLegal s) : ConfigLegal (f s).2.2 := by
  have frame := command_frame is s
  by_cases table : ∃ a, c = .tableWrite a
  · obtain ⟨a, rfl⟩ := table
    cases is
    unfold cmdTableWrite
    split
    · exact h
    · exact (h.writeEntry ‹_›).of_eq (by simp [okWith]) (by simp [okWith])
  · have cfg : (f s).2.2.cfg = s.cfg := by
      refine frame.cfg ?_
      cases c <;> simp_all [changesTables]
    refine h.of_eq cfg fun off => ?_
    by_cases restart : c = .linkRestart
    · subst restart
      cases is
      simp [cmdLinkRestart, State.linkEn, off, refuse]
    · by_cases clear : c = .quarantineClear
      · subst clear
        cases is
        unfold cmdQuarantineClear
        split <;> simpa [okWith, refuse]
      · rw [frame.link restart clear, off]

theorem hostKept_configLegal : HostKept ConfigLegal ConfigLegal where
  nothing := id
  command is h code := (h.command is).of_eq (finishCommand_frame ..).1 (by simp [finishCommand])
  undefined h code := h.of_eq (by simp [finishCommand, refuse]) (by simp [finishCommand, refuse])
  softReset h := h.of_eq rfl fun _ => rfl
  enable {s} h f := by
    unfold enableLink
    split
    · exact h.of_eq (by simp) (by simp)
    · split
      · exact h.of_eq (by simp) (by simp)
      · rename_i primary
        exact { h with enabled := fun _ => primary }
  disable h f := by
    unfold disableLink
    split
    · exact h.of_eq (by simp) (by simp)
    · exact h.of_eq (by simp) (by simp)
  clear h w keep := h.of_eq (by simp) (by simp)
  read h := h.of_eq (by simp) (by simp)
  register {s r} other h w := by
    cases r with
    | sctl | cmdw | evst => simp [isOther] at other
    | ident => exact h.writeIdent w
    | linkcfg => exact h.writeLinkcfg w
    | tickdiv => exact h.writeTickdiv w
    | quota => exact h.writeQuota w
    | routecfg => exact h.writeRoutecfg w
    | dozecfg => exact h.writeDozecfg w
    | hmark n => exact h.writeHmark n w
    | holdcfg => exact h.writeHoldcfg .holdcfg w
    | holdmrg => exact h.writeHoldcfg .holdmrg w
    | even =>
      have written : ConfigLegal (updCfg (fun d => { d with even := w &&& 0x07FFFFFF#32 }) s) := { h with }
      exact written
    | _ => exact h.of_eq (by simp [writeReg, writeBoard, writeBoardrd, writeBoardwr]) (by rw [(writeReg_frame s w _ rfl).link]; exact id)

theorem configLegal_reset : ConfigLegal State.reset := by
  constructor <;> decide

theorem kept_configLegal : Kept ConfigLegal ConfigLegal where
  line is h := h.of_line (line_frame is _)
  expiry h := h.of_line (expiry_frame _ _).1
  dozes h := h.of_line (enterDoze_lineFrame _)
  host act h := hostKept_configLegal.host act h
  ends h := h.of_eq (by simp) (endEvent_keeps _).1.mpr
  drops h := h.of_eq (by simp) (by simp [StrandBus.dropAnswer_act_iff])
  marks h := h.of_eq rfl id
  clears h := h.of_eq rfl id
  cycles h := h.of_eq (nextEdge_frame _).cfg (by rw [(nextEdge_frame _).act]; simp [StrandBus.dropAnswer_act_iff])
  pin h := h.of_eq (by simp) (by simp)
  resets := configLegal_reset.of_eq rfl fun _ => rfl
  waits h := h.of_eq rfl id
  reads h := h.of_eq rfl id

/-! ## Bits without a name -/

theorem UnnamedBitsClear.of_eq (h : UnnamedBitsClear s)
    (sticky : t.events.sticky &&& 0xF800001F#32 = s.events.sticky &&& 0xF800001F#32)
    (even : t.cfg.even = s.cfg.even) (stageh : t.host.stageh = s.host.stageh) : UnnamedBitsClear t :=
  ⟨sticky.trans h.sticky, by rw [even]; exact h.even, by rw [stageh]; exact h.stageh⟩

theorem UnnamedBitsClear.of_line (h : UnnamedBitsClear s) (f : LineFrame s t) : UnnamedBitsClear t :=
  h.of_eq f.named (by rw [f.cfg]) (by rw [f.host])

/-- A word within a mask has 0 in the bits that the mask leaves out. -/
theorem masked_clear (w : Word) {mask outside : Word} (apart : mask &&& outside = 0#32) : w &&& mask &&& outside = 0#32 := by
  rw [BitVec.and_assoc, apart, BitVec.and_zero]

/-- Clearing bits sets none. -/
theorem cleared_clear {x : Word} (y : Word) {outside : Word} (h : x &&& outside = 0#32) : x &&& y &&& outside = 0#32 := by
  rw [BitVec.and_assoc, BitVec.and_comm y, ← BitVec.and_assoc, h, BitVec.zero_and]

theorem even_command {c : Instr} {code : BitVec 8} {f : State → CmdOut} (is : commandOf c = some (code, f)) :
    (f s).2.2.cfg.even = s.cfg.even := by
  rw [command_cfg is]

theorem even_writeReg {r : Reg} (other : isOther r = true) (w : Word) (even : r ≠ .even) :
    (writeReg r w s).cfg.even = s.cfg.even := by
  cases r <;> simp [isOther] at other even
  case ident => simp only [writeReg, writeIdent]; repeat' split
                all_goals simp
  case linkcfg => simp only [writeReg, writeLinkcfg]; split <;> simp
  case tickdiv => simp only [writeReg, writeTickdiv]; split <;> simp
  case quota => simp only [writeReg, writeQuota]; split <;> simp
  case routecfg => simp only [writeReg, writeRoutecfg]; split <;> simp
  case dozecfg => simp only [writeReg, writeDozecfg]; split <;> simp
  case hmark => simp only [writeReg, writeHmark]; split <;> simp
  case holdcfg => simp [writeReg, writeHoldcfg]
  all_goals rfl

theorem stageh_writeReg {r : Reg} (other : isOther r = true) (w : Word) (stageh : r ≠ .stageh) :
    (writeReg r w s).host.stageh = s.host.stageh := by
  cases r <;> simp [isOther] at other stageh
  case ident => simp [writeReg, writeIdent_frame]
  case linkcfg => simp [writeReg, writeLinkcfg_frame]
  case tickdiv => simp [writeReg, writeTickdiv_frame]
  case quota => simp [writeReg, writeQuota_frame]
  case routecfg => simp [writeReg, writeRoutecfg_frame]
  case dozecfg => simp [writeReg, writeDozecfg_frame]
  case hmark => simp [writeReg, writeHmark_frame]
  case holdcfg => simp [writeReg, writeHoldcfg_frame]
  case tbldata i => simp only [writeReg, updHost_host]; split <;> rfl
  all_goals rfl

theorem hostKept_unnamedBitsClear : HostKept UnnamedBitsClear UnnamedBitsClear where
  nothing := id
  command is h code := by
    obtain ⟨cfg, -, -, -, -, -, -, stageh, named⟩ := finishCommand_frame code (_ : CmdOut)
    have frame := command_frame is
    exact h.of_eq (named.trans (frame _).named) (by rw [cfg, even_command is]) (stageh.trans (frame _).stageh)
  undefined h code := h.of_eq (by simp [finishCommand, refuse]) (by simp [finishCommand, refuse])
    (by simp [finishCommand, refuse])
  softReset h := ⟨by simp, h.even, h.stageh⟩
  enable h f := by
    unfold enableLink
    repeat' split
    all_goals exact h.of_eq (by simp) (by simp) (by simp)
  disable h f := by
    unfold disableLink
    split
    all_goals exact h.of_eq (by simp) (by simp) (by simp)
  clear h w keep := by
    refine ⟨?_, by simpa using h.even, by simpa using h.stageh⟩
    unfold evstClear
    split
    · exact h.sticky
    · exact cleared_clear _ h.sticky
  read h := by
    refine ⟨?_, h.even, h.stageh⟩
    rw [evstRead_events]
    dsimp only
    split
    · rfl
    · exact h.sticky
  register {s r} other h w := by
    have named := (writeReg_frame s w r other).named
    by_cases even : r = .even
    · subst even
      exact ⟨h.sticky, masked_clear w rfl, h.stageh⟩
    · by_cases stageh : r = .stageh
      · subst stageh
        exact ⟨h.sticky, h.even, masked_clear w rfl⟩
      · exact h.of_eq named (even_writeReg other w even) (stageh_writeReg other w stageh)

theorem kept_unnamedBitsClear : Kept UnnamedBitsClear UnnamedBitsClear where
  line is h := h.of_line (line_frame is _)
  expiry h := h.of_line (expiry_frame _ _).1
  dozes h := h.of_line (enterDoze_lineFrame _)
  host act h := hostKept_unnamedBitsClear.host act h
  ends h := h.of_eq (by simp) (by simp) (by simp)
  drops h := h.of_eq (by simp) (by simp) (by simp)
  marks h := h.of_eq rfl rfl rfl
  clears h := h.of_eq rfl rfl rfl
  cycles h := by
    have frame := nextEdge_frame
    exact h.of_eq (by rw [(frame _).sticky]) (by rw [(frame _).cfg]) (by rw [(frame _).host])
  pin h := h.of_eq rfl rfl rfl
  resets := ⟨by simp, by simp, by simp⟩
  waits h := h.of_eq rfl rfl rfl
  reads h := h.of_eq rfl rfl rfl

/-- Settles O53, invariant by invariant. -/
theorem stepKeepsInterruptAndConfiguration : Obligations.StepKeepsInterruptAndConfiguration :=
  fun _ _ run => ⟨kept_intFollows.step run, kept_configLegal.step run, kept_unnamedBitsClear.step run⟩

end

end Sys2Proof.Safety
end

section
/-! The asserted and pending sets of the Hold Unit, kept by every step (R122, R123). -/

namespace Sys2Proof.Safety

open Sys2Proof.Machine Sys2Proof.Linkage

/-! ## Class sets, bit by bit -/

section
variable {a n p r : BitVec 4}

/-- Joining and leaving classes keep the pending assertions within the asserted set (R123). -/
theorem pendAssert_within (h : p &&& ~~~a = 0) : ((p ||| (n &&& ~~~a)) &&& ~~~(a &&& ~~~n)) &&& ~~~n = 0 := by
  ext i lt
  have bit : (p[i] && !a[i]) = false := by simpa using congrArg (·[i]) h
  cases p[i]'lt <;> cases e : a[i] <;> cases n[i]'lt <;> simp_all

/-- Joining classes leave the pending releases, and leaving classes are in the asserted set no more (R123). -/
theorem pendRelease_outside (h : r &&& a = 0) : (r &&& ~~~(n &&& ~~~a)) &&& n = 0 ∧
    ((r &&& ~~~(n &&& ~~~a)) ||| (a &&& ~~~n)) &&& n = 0 := by
  constructor <;>
  · ext i lt
    have bit : (r[i] && a[i]) = false := by simpa using congrArg (·[i]) h
    cases r[i]'lt <;> cases e : a[i] <;> cases n[i]'lt <;> simp_all

theorem and_within (m : BitVec 4) (h : p &&& a = 0) : p &&& m &&& a = 0 := by
  rw [BitVec.and_assoc, BitVec.and_comm m, ← BitVec.and_assoc, h]
  simp

end

section
variable {s t : State}

/-! ## Evaluations -/

theorem wantedClasses_of_eq (holding : t.hold.holding = s.hold.holding) (hmark : t.cfg.hmark = s.cfg.hmark) :
    t.wantedClasses = s.wantedClasses := by
  simp only [State.wantedClasses, holding, hmark]

/-- With no inbox in HOLDING no class is wanted (R122). -/
theorem wantedClasses_of_clear (clear : ∀ n : Fin 4, s.hold.holding[n] = false) : s.wantedClasses = 0 := by
  have nobody (c : Nat) : s.wantedClasses.getLsbD c = false := by
    rw [Bool.eq_false_iff, ne_eq, wantedClasses_getLsbD]
    rintro ⟨n, holds, -⟩
    simp [clear n] at holds
  exact BitVec.eq_of_getLsbD_eq fun c _ => by rw [nobody]; simp

theorem HoldSets.of_eq (h : HoldSets s) (asserted : t.hold.asserted = s.hold.asserted)
    (pendAssert : t.hold.pendAssert = s.hold.pendAssert) (pendRelease : t.hold.pendRelease = s.hold.pendRelease)
    (holding : t.hold.holding = s.hold.holding) (hmark : t.cfg.hmark = s.cfg.hmark)
    (outEn : t.cfg.holdcfg.outEn = s.cfg.holdcfg.outEn) : HoldSets t := by
  obtain ⟨union, within, outside, off⟩ := h
  refine ⟨?_, ?_, ?_, ?_⟩
  · rw [asserted, wantedClasses_of_eq holding hmark, union]
  · rw [pendAssert, asserted, within]
  · rw [pendRelease, asserted, outside]
  · rw [outEn, holding]; exact off

theorem HoldSets.of_hold (h : HoldSets s) (hold : t.hold = s.hold) (hmark : t.cfg.hmark = s.cfg.hmark)
    (outEn : t.cfg.holdcfg.outEn = s.cfg.holdcfg.outEn) : HoldSets t :=
  h.of_eq (by rw [hold]) (by rw [hold]) (by rw [hold]) (by rw [hold]) hmark outEn

/-- The asserted set recomputed, whatever the inboxes: what was pending stays in its place (R122, R123). -/
theorem holdSets_updateAsserted (within : s.hold.pendAssert &&& ~~~s.hold.asserted = 0)
    (outside : s.hold.pendRelease &&& s.hold.asserted = 0)
    (off : s.cfg.holdcfg.outEn = false → ∀ n : Fin 4, s.hold.holding[n] = false) : HoldSets (updateAsserted s) := by
  refine ⟨rfl, pendAssert_within within, ?_, off⟩
  simp only [updateAsserted]
  split
  · exact (pendRelease_outside outside).1
  · exact (pendRelease_outside outside).2

/-- An evaluation needs no more than that the pending sets are in their place (R122). -/
theorem holdSets_evalInbox (n : Fin 4) (h : HoldSets s) : HoldSets (evalInbox n s) := by
  unfold evalInbox
  split
  · rename_i on
    exact holdSets_updateAsserted h.assertWithin h.releaseOutside fun off => absurd off (by simp [on])
  · exact h

/-! ## Line events -/

theorem HoldSets.holdSent (h : HoldSets s) (k : HoldKind) (p : Parcel) : HoldSets (holdSent k p s) := by
  obtain ⟨union, within, outside, off⟩ := h
  cases k with
  | assertion => exact ⟨union, and_within _ within, outside, off⟩
  | release => exact ⟨union, within, and_within _ outside, off⟩
  | manual => exact ⟨union, within, outside, off⟩

theorem HoldSets.onSentCleanly (h : HoldSets s) : HoldSets (onSentCleanly s) := by
  unfold Machine.onSentCleanly
  split
  · rename_i o p _
    have ok : HoldSets (sentOk s) := h.of_hold (by simp) (by simp) (by simp)
    dsimp only
    split
    · exact ok.of_hold (by simp) (by simp) (by simp)
    · cases o with
      | call => exact ok.of_hold (by simp [reportSent]) (by simp) (by simp)
      | hold k => exact (ok.holdSent k p).of_hold (by simp [reportSent]) (by simp) (by simp)
  · exact h

theorem HoldSets.applyHold (h : HoldSets s) (p : Parcel) : HoldSets (applyHold p s) := by
  unfold Machine.applyHold
  split
  · exact h.of_eq rfl rfl rfl rfl rfl rfl
  · exact h

theorem HoldSets.servePut (h : HoldSets s) (hit : IdHit) (p : Parcel) : HoldSets (servePut hit p s).2 := by
  unfold Machine.servePut
  split
  · split
    · exact h.of_hold (by simp) (by simp) (by simp)
    · exact holdSets_evalInbox _ (h.of_hold rfl rfl rfl)
  · exact h
  · exact h

theorem HoldSets.finishCall (h : HoldSets s) (p : Parcel) (v : Served) : HoldSets (finishCall p v s).2 :=
  h.of_hold (by simp) (by simp) (by simp)

theorem HoldSets.serveUnicast (h : HoldSets s) (hit : IdHit) (p : Parcel) : HoldSets (serveUnicast hit p s).2 := by
  unfold Machine.serveUnicast
  split
  · exact h.of_hold (by simp) (by simp) (by simp)
  · split
    · exact (h.servePut hit p).finishCall ..
    · split
      · exact h.finishCall ..
      · exact h.of_hold (by simp) (by simp) (by simp)

theorem HoldSets.intakeFromClaim (h : HoldSets s) (hit : IdHit) (p : Parcel) :
    HoldSets (intakeFromClaim hit p s).2 := by
  unfold Machine.intakeFromClaim
  repeat' split
  · exact h.servePut hit p
  · exact h.of_hold (by simp) (by simp) (by simp)
  · exact h.of_hold (by simp) (by simp) (by simp)
  · exact h
  · exact h.serveUnicast hit p

theorem HoldSets.intakeDozing (h : HoldSets s) (hit : IdHit) (p : Parcel) : HoldSets (intakeDozing hit p s).2 := by
  unfold Machine.intakeDozing
  split
  · rename_i i _
    have woken : HoldSets (wakeByFilter i s) := h.of_hold (by simp) (by simp) (by simp)
    exact woken.intakeFromClaim hit p
  · split <;> exact h

theorem HoldSets.intake (h : HoldSets s) (p : Parcel) : HoldSets (intake p s).2 := by
  unfold Machine.intake
  dsimp only
  repeat' split
  · exact h.applyHold p
  · exact h.of_hold (by simp) (by simp) (by simp)
  · exact h
  · exact h.intakeDozing _ p
  · exact h.intakeFromClaim _ p

theorem HoldSets.dispose (h : HoldSets s) (w : Bool) (r : RxResult) : HoldSets (dispose w r s).2 := by
  unfold Machine.dispose
  split
  · split <;> exact h
  · split
    · exact h.of_hold (by simp) (by simp) (by simp)
    · split
      · exact h.intake _
      · exact h
  · exact h

end

end Sys2Proof.Safety

namespace Sys2Proof.Linkage

open Sys2Proof.Machine Sys2Proof.Safety

/-! ## The end of a reception, as its disposal -/

/-- The disposal that a reception ends with, after its count and the end of its attempt (R36 to R38). -/
def disposed (w : Option Parcel) (r : RxResult) (s : State) : State :=
  (dispose w.isSome r (StrandBus.endAttempt w r (countReception r s))).2

/-- What a reception leaves but for the link: what its disposal leaves. -/
theorem receptionEnds_blocks (w : Option Parcel) (r : RxResult) (s : State) :
    let t := receptionEnds w r s
    let u := disposed w r s
    t.cfg = u.cfg ∧ t.sess = u.sess ∧ t.board = u.board ∧ t.hold = u.hold ∧ t.doze = u.doze := by
  rcases d : dispose w.isSome r (StrandBus.endAttempt w r (countReception r s)) with ⟨_ | a, u⟩
  · rw [StrandBus.receptionEnds_unanswered d, disposed, d]
    simp
  · rw [StrandBus.receptionEnds_answered d, disposed, d]
    simp

/-- An own call's reception leaves, before the disposal, everything but the calls, the stack and the events. -/
theorem endAttempt_frame (w : Option Parcel) (r : RxResult) (s : State) :
    let t := StrandBus.endAttempt w r (countReception r s)
    t.cfg = s.cfg ∧ t.sctl = s.sctl ∧ t.intake = s.intake ∧ t.board = s.board ∧ t.hold = s.hold ∧ t.doze = s.doze ∧
    t.sess.holder = s.sess.holder ∧ t.sess.leaseTimer = s.sess.leaseTimer := by
  cases w <;> simp [StrandBus.endAttempt]

/-- What a line event that ends a reception keeps, by what the disposal keeps. -/
theorem onParcel_induction {s : State} {Q : State → Prop} (items : List LineItem) (nothing : Q s)
    (ends : ∀ w r, s.link.act = .listening w → receive s.bt items = some r → Q (receptionEnds w r s)) :
    Q (onParcel items s) := by
  unfold onParcel
  split
  · split
    · exact ends _ _ ‹_› ‹_›
    · exact nothing
  · exact nothing

end Sys2Proof.Linkage
end

section
/-! The Hold Unit's sets, the claim with its lease, and the Doze Unit, kept by every step (R77, R122, R123, R144, R148). -/

namespace Sys2Proof.Safety

open Sys2Proof.Machine Sys2Proof.Linkage

section
variable {s t : State}

/-! ## The Hold Unit -/

theorem HoldSets.onParcel (h : HoldSets s) (items : List LineItem) : HoldSets (onParcel items s) := by
  refine onParcel_induction items h fun w r _ _ => ?_
  obtain ⟨cfg, -, -, -, hold, -⟩ := endAttempt_frame w r s
  obtain ⟨cfg', -, -, hold', -⟩ := receptionEnds_blocks w r s
  have attempt : HoldSets (StrandBus.endAttempt w r (countReception r s)) :=
    h.of_hold hold (by rw [cfg]) (by rw [cfg])
  exact (attempt.dispose w.isSome r).of_hold hold' (by rw [cfg']; rfl) (by rw [cfg']; rfl)

theorem HoldSets.line {c : Instr} {f : State → State} (is : lineEffect c = some f) (h : HoldSets s) :
    HoldSets (f s) := by
  obtain ⟨items, -, rfl⟩ | other := line_cases is
  · exact h.onParcel items
  · obtain ⟨frame, hold | rfl⟩ := other s
    · exact h.of_hold hold (by rw [frame.cfg]) (by rw [frame.cfg])
    · exact h.onSentCleanly

theorem HoldSets.effect (h : HoldSets s) (e : Expiry) : HoldSets (e.effect s) := by
  cases e with
  | hold c =>
    simp only [Expiry.effect, onHoldExpiry]
    split
    · exact h.of_eq rfl rfl rfl rfl rfl rfl
    · exact h
  | refresh =>
    simp only [Expiry.effect, onRefreshExpiry]
    split
    · obtain ⟨union, within, outside, off⟩ := h
      refine ⟨union, ?_, outside, off⟩
      change (s.hold.pendAssert ||| s.hold.asserted) &&& ~~~s.hold.asserted = 0#4
      ext i lt
      have bit : (s.hold.pendAssert[i] && !s.hold.asserted[i]) = false := by simpa using congrArg (·[i]) within
      cases e : s.hold.asserted[i] <;> simp_all
    · exact h
  | backoff c => exact h.of_hold rfl rfl rfl
  | lease =>
    simp only [Expiry.effect, onLeaseExpiry]
    split <;> exact h.of_hold (by simp) (by simp) (by simp)
  | mirror k =>
    simp only [Expiry.effect, onMirrorExpiry]
    split <;> exact h.of_hold (by simp) (by simp) (by simp)
  | stuck =>
    simp only [Expiry.effect, onStuckExpiry]
    split <;> exact h.of_hold (by simp) (by simp) (by simp)
  | dozeIdle =>
    simp only [Expiry.effect, onDozeIdleExpiry]
    split <;> exact h.of_hold rfl rfl rfl

theorem HoldSets.setInbox (h : HoldSets s) (n : Fin 4) (records : List InRecord) :
    HoldSets (setInbox n records s) := by
  unfold Machine.setInbox
  exact holdSets_evalInbox n (h.of_hold rfl rfl rfl)

theorem HoldSets.command {c : Instr} {code : BitVec 8} {f : State → CmdOut} (is : commandOf c = some (code, f))
    (h : HoldSets s) : HoldSets (f s).2.2 := by
  cases e : changesHold c with
  | false => exact h.of_hold ((command_frame is s).hold e) (by rw [command_cfg is]) (by rw [command_cfg is])
  | true =>
    obtain ⟨a, rfl | rfl | rfl⟩ : ∃ a, c = .inboxPop a ∨ c = .inboxFlush a ∨ c = .holdSend a := by
      cases c <;> simp_all [changesHold]
    all_goals cases is
    · unfold cmdInboxPop
      split
      · exact h
      · split
        · exact h
        · exact h.setInbox _ _
    · unfold cmdInboxFlush
      split
      · exact h
      · exact h.setInbox _ _
    · unfold cmdHoldSend
      repeat' split
      all_goals exact h.of_eq rfl rfl rfl rfl rfl rfl

/-- New marks of an inbox count at its evaluation; with OUT_EN 0 no inbox is in HOLDING (R122). -/
theorem HoldSets.writeHmark (h : HoldSets s) (n : Fin 4) (w : Word) : HoldSets (writeHmark n w s) := by
  unfold Machine.writeHmark
  dsimp only
  split
  · exact h.of_hold (by simp) (by simp) (by simp)
  · obtain ⟨union, within, outside, off⟩ := h
    unfold evalInbox
    split
    · rename_i on
      exact holdSets_updateAsserted within outside fun off => absurd off (by simpa using on)
    · rename_i is
      have clear := off (by simpa using is)
      refine ⟨?_, within, outside, off⟩
      exact union.trans ((wantedClasses_of_clear clear).trans (wantedClasses_of_clear (s := updCfg _ s) clear).symm)

/-- OUT_EN written: the inboxes cleared, or evaluated afresh, or as they were (R126). -/
theorem HoldSets.applyOutEn {was : Bool} (union : s.hold.asserted = s.wantedClasses)
    (within : s.hold.pendAssert &&& ~~~s.hold.asserted = 0) (outside : s.hold.pendRelease &&& s.hold.asserted = 0)
    (off : was = false → ∀ n : Fin 4, s.hold.holding[n] = false) : HoldSets (applyOutEn was s) := by
  unfold Machine.applyOutEn
  split
  · rename_i is
    have clear : HoldSets (updateAsserted { s with hold := { s.hold with holding := Vector.replicate _ false } }) :=
      holdSets_updateAsserted within outside fun _ n => by simp
    exact ⟨clear.union, by simp, clear.releaseOutside, clear.off⟩
  · rename_i is
    have on : HoldSets s := ⟨union, within, outside, fun off => absurd off (by simp [is])⟩
    exact holdSets_evalInbox 3 (holdSets_evalInbox 2 (holdSets_evalInbox 1 (holdSets_evalInbox 0 on)))
  · rename_i cleared evaluated
    exact ⟨union, within, outside, fun is => off (Bool.eq_false_iff.mpr fun on => cleared on is)⟩

theorem HoldSets.writeHoldcfg (h : HoldSets s) (r : HoldReg) (w : Word) : HoldSets (writeHoldcfg r w s) := by
  cases r with
  | holdmrg => exact h.of_hold rfl rfl rfl
  | holdcfg =>
    have held (was : Bool) (u : State) : (applyInEn was u).hold = { u.hold with timers := (applyInEn was u).hold.timers } := by
      unfold applyInEn; split <;> rfl
    obtain ⟨union, within, outside, off⟩ := h
    unfold Machine.writeHoldcfg
    refine HoldSets.applyOutEn ?_ ?_ ?_ ?_
    · rw [wantedClasses_of_eq (s := s) (by rw [held]; rfl) (by simp), held]
      exact union
    · rw [held]; exact within
    · rw [held]; exact outside
    · rw [held]; exact off

theorem hold_writeReg {r : Reg} (other : isOther r = true) (w : Word) (marks : ∀ n, r ≠ .hmark n)
    (holds : r ≠ .holdcfg) : (writeReg r w s).hold = s.hold ∧ (writeReg r w s).cfg.hmark = s.cfg.hmark ∧
    (r ≠ .holdmrg → (writeReg r w s).cfg.holdcfg = s.cfg.holdcfg) := by
  cases r <;> simp [isOther] at other marks holds
  case ident =>
    simp only [writeReg, writeIdent]
    repeat' split
    all_goals simp
  case linkcfg => simp only [writeReg, writeLinkcfg]; split <;> simp
  case tickdiv => simp only [writeReg, writeTickdiv]; split <;> simp
  case quota => simp only [writeReg, writeQuota]; split <;> simp
  case routecfg => simp only [writeReg, writeRoutecfg]; split <;> simp
  case dozecfg => simp only [writeReg, writeDozecfg]; split <;> simp
  all_goals simp [writeReg, writeHoldcfg, writeBoard, writeBoardrd, writeBoardwr]

theorem holdSets_clear (hold : t.hold = {}) : HoldSets t := by
  have clear (n : Fin 4) : t.hold.holding[n] = false := by simp [hold]
  refine ⟨?_, by simp [hold], by simp [hold], fun _ => clear⟩
  rw [wantedClasses_of_clear clear, hold]

theorem hostKept_holdSets : HostKept HoldSets HoldSets where
  nothing := id
  command is h code := by
    have frame := finishCommand_frame code
    exact (h.command is).of_hold (frame _).2.2.2.1 (by rw [(frame _).1]) (by rw [(frame _).1])
  undefined h code := h.of_hold (by simp [finishCommand, refuse]) (by simp [finishCommand, refuse])
    (by simp [finishCommand, refuse])
  softReset h := holdSets_clear (by simp)
  enable h f := h.of_hold (by simp) (by simp) (by simp)
  disable h f := h.of_hold (by simp) (by simp) (by simp)
  clear h w keep := h.of_hold (by simp) (by simp) (by simp)
  read h := h.of_hold rfl rfl rfl
  register {s r} other h w := by
    by_cases marks : ∃ n, r = .hmark n
    · obtain ⟨n, rfl⟩ := marks
      exact h.writeHmark n w
    · by_cases holds : r = .holdcfg
      · subst holds
        exact h.writeHoldcfg .holdcfg w
      · by_cases margin : r = .holdmrg
        · subst margin
          exact h.writeHoldcfg .holdmrg w
        · obtain ⟨hold, hmark, holdcfg⟩ := hold_writeReg (s := s) other w (by simpa using marks) holds
          exact h.of_hold hold hmark (by rw [holdcfg margin])

theorem kept_holdSets : Kept HoldSets HoldSets where
  line is h := h.line is
  expiry h := h.effect _
  dozes h := h.of_hold (by simp) (by simp) (by simp)
  host act h := hostKept_holdSets.host act h
  ends h := h.of_hold (by simp) (by simp) (by simp)
  drops h := h.of_hold (by simp) (by simp) (by simp)
  marks h := h.of_hold rfl rfl rfl
  clears h := h.of_hold rfl rfl rfl
  cycles h := by
    have frame := nextEdge_frame
    exact h.of_eq (by rw [(frame _).hold]) (by rw [(frame _).hold]) (by rw [(frame _).hold]) (by rw [(frame _).hold])
      (by rw [(frame _).cfg]) (by rw [(frame _).cfg])
  pin h := h.of_hold rfl rfl rfl
  resets := holdSets_clear (by simp)
  waits h := h.of_hold rfl rfl rfl
  reads h := h.of_hold rfl rfl rfl

end

end Sys2Proof.Safety
end

section
/-! The claim with its lease, and the Doze Unit, kept by every step (R43, R77, R144, R148). -/

namespace Sys2Proof.Safety

open Sys2Proof.Machine Sys2Proof.Linkage

section
variable {s t : State}

/-! ## The claim (R77) -/

/-- What a reception calls good breaks no form rule (R4, R17). -/
theorem wellFormed_of_receive {bt : Nat} {items : List LineItem} {p : Parcel}
    (rx : receive bt items = some (.good p)) : p.malformed = false := by
  have judged {bs : List Bool} (good : judge bs = .good p) : p.malformed = false := by
    simp only [judge] at good
    repeat' split at good
    all_goals cases good
    rename_i form
    exact Bool.eq_false_iff.mpr form
  have all (l : List LineItem) : ∀ bs, receiveFrom bt bs l = some (.good p) → p.malformed = false := by
    induction l with
    | nil => exact fun bs none => by simp [receiveFrom] at none
    | cons item l ih =>
      intro bs good
      cases item with
      | high c =>
        simp only [receiveFrom] at good
        split at good
        · cases good
        · exact ih bs good
      | low c =>
        simp only [receiveFrom] at good
        repeat' split at good
        all_goals first | exact judged (Option.some.inj good) | exact ih _ good | cases good
  exact all items [] rx

/-- A good parcel comes from a node 1..30 (R7, R17). -/
theorem source_of_wellFormed {p : Parcel} (form : p.malformed = false) : p.source ≠ 0 ∧ p.source ≠ 31 := by
  simp only [Parcel.malformed, Bool.or_eq_false_iff, decide_eq_false_iff_not] at form
  simp only [and_assoc] at form
  obtain ⟨-, -, zero, last, -⟩ := form
  exact ⟨zero, last⟩

theorem ClaimCoherent.of_eq (h : ClaimCoherent s) (holder : t.sess.holder = s.sess.holder)
    (lease : s.sess.leaseTimer = none → t.sess.leaseTimer = none) : ClaimCoherent t :=
  ⟨fun free => lease (h.timer (holder ▸ free)), holder ▸ h.node⟩

theorem ClaimCoherent.of_same (h : ClaimCoherent s) (holder : t.sess.holder = s.sess.holder)
    (lease : t.sess.leaseTimer = s.sess.leaseTimer) : ClaimCoherent t := h.of_eq holder lease.trans

theorem ClaimCoherent.of_sess (h : ClaimCoherent s) (sess : t.sess = s.sess) : ClaimCoherent t :=
  h.of_same (by rw [sess]) (by rw [sess])

theorem claimCoherent_free (holder : t.sess.holder = none) (lease : t.sess.leaseTimer = none) : ClaimCoherent t :=
  ⟨fun _ => lease, by simp [holder]⟩

theorem claimCoherent_endClaim (cause : EndCause) (s : State) : ClaimCoherent (endClaim cause s) :=
  claimCoherent_free rfl rfl

/-- The lease restarts only with a holder (R81). -/
theorem ClaimCoherent.restartLease (h : ClaimCoherent s) {node : BitVec 5} (holds : s.sess.holder = some node) :
    ClaimCoherent (restartLease s) :=
  ⟨fun free => by simp [holds] at free, h.node⟩

theorem ClaimCoherent.serveClaim (h : ClaimCoherent s) {p : Parcel} (source : p.source ≠ 0 ∧ p.source ≠ 31) :
    ClaimCoherent (serveClaim p s).2 := by
  unfold Machine.serveClaim
  split
  · exact h
  · split
    · exact ⟨fun free => by simp at free, by simpa using source⟩
    · rename_i holds
      split
      · exact h.restartLease holds
      · exact h

theorem ClaimCoherent.serveRelease (h : ClaimCoherent s) (p : Parcel) : ClaimCoherent (serveRelease p s).2 := by
  unfold Machine.serveRelease
  split
  · exact claimCoherent_endClaim _ _
  · exact h

theorem ClaimCoherent.finishCall (h : ClaimCoherent s) (p : Parcel) (v : Served) : ClaimCoherent (finishCall p v s).2 := by
  have renewed : ClaimCoherent (renewLease p v s) := by
    unfold renewLease
    split
    · rename_i holds
      exact h.restartLease holds.2
    · exact h
  exact renewed.of_sess (by simp [Machine.finishCall])

theorem ClaimCoherent.serveUnicast (h : ClaimCoherent s) (hit : IdHit) (p : Parcel) :
    ClaimCoherent (serveUnicast hit p s).2 := by
  unfold Machine.serveUnicast
  split
  · exact ClaimCoherent.finishCall (h.of_sess (by simp)) p _
  · split
    · exact ClaimCoherent.finishCall (h.of_sess (by simp)) p _
    · split
      · exact h.finishCall p _
      · exact ClaimCoherent.finishCall (h.of_sess (by simp)) p _

theorem ClaimCoherent.intakeFromClaim (h : ClaimCoherent s) (hit : IdHit) {p : Parcel}
    (source : p.source ≠ 0 ∧ p.source ≠ 31) : ClaimCoherent (intakeFromClaim hit p s).2 := by
  unfold Machine.intakeFromClaim
  repeat' split
  · exact h.of_sess (by simp)
  · exact (h.serveClaim source).finishCall p _
  · exact (h.serveRelease p).finishCall p _
  · exact h
  · exact h.serveUnicast hit p

theorem ClaimCoherent.intakeDozing (h : ClaimCoherent s) (hit : IdHit) {p : Parcel}
    (source : p.source ≠ 0 ∧ p.source ≠ 31) : ClaimCoherent (intakeDozing hit p s).2 := by
  unfold Machine.intakeDozing
  split
  · exact ClaimCoherent.intakeFromClaim (h.of_sess (by simp)) hit source
  · split <;> exact h

theorem ClaimCoherent.intakeRouse (h : ClaimCoherent s) (hit : IdHit) (p : Parcel) :
    ClaimCoherent (intakeRouse hit p s).2 := by
  have handed : ClaimCoherent (dozeRouse s) := h.of_sess (by simp)
  unfold Machine.intakeRouse
  split
  · exact handed
  · exact handed.finishCall p _

theorem ClaimCoherent.intake (h : ClaimCoherent s) {p : Parcel} (source : p.source ≠ 0 ∧ p.source ≠ 31) :
    ClaimCoherent (intake p s).2 := by
  unfold Machine.intake
  dsimp only
  repeat' split
  · exact h.of_sess (by simp)
  · exact h.intakeRouse _ p
  · exact h
  · exact h.intakeDozing _ source
  · exact h.intakeFromClaim _ source

theorem ClaimCoherent.dispose (h : ClaimCoherent s) (w : Bool) {r : RxResult}
    (source : ∀ p, r = .good p → p.source ≠ 0 ∧ p.source ≠ 31) : ClaimCoherent (dispose w r s).2 := by
  unfold Machine.dispose
  split
  · split <;> exact h
  · rename_i p
    repeat' split
    · exact h.of_sess (by simp)
    · exact h.intake (source p rfl)
    · exact h
  · exact h

theorem ClaimCoherent.onParcel (h : ClaimCoherent s) (items : List LineItem) : ClaimCoherent (onParcel items s) := by
  refine onParcel_induction items h fun w r _ rx => ?_
  obtain ⟨-, -, -, -, -, -, holder, lease⟩ := endAttempt_frame w r s
  obtain ⟨-, sess, -⟩ := receptionEnds_blocks w r s
  have attempt := h.of_same holder lease
  have good (p : Parcel) (is : r = .good p) : p.source ≠ 0 ∧ p.source ≠ 31 :=
    source_of_wellFormed (wellFormed_of_receive (is ▸ rx))
  exact (attempt.dispose w.isSome good).of_sess sess

theorem ClaimCoherent.line {c : Instr} {f : State → State} (is : lineEffect c = some f) (h : ClaimCoherent s) :
    ClaimCoherent (f s) := by
  obtain ⟨items, -, rfl⟩ | other := line_cases is
  · exact h.onParcel items
  · exact h.of_same (other s).1.holder (other s).1.lease

theorem expiry_claim (e : Expiry) (s : State) : e = .lease ∨
    ((e.effect s).sess.holder = s.sess.holder ∧ (e.effect s).sess.leaseTimer = s.sess.leaseTimer) := by
  cases e with
  | lease => exact .inl rfl
  | hold | refresh | backoff | mirror | stuck | dozeIdle =>
    refine .inr ?_
    simp only [Expiry.effect, onHoldExpiry, onRefreshExpiry, onBackoffExpiry, onMirrorExpiry, onStuckExpiry,
      onDozeIdleExpiry]
    repeat' split
    all_goals simp

theorem ClaimCoherent.effect (h : ClaimCoherent s) (e : Expiry) : ClaimCoherent (e.effect s) := by
  obtain rfl | ⟨holder, lease⟩ := expiry_claim e s
  · simp only [Expiry.effect, onLeaseExpiry]
    split
    · exact claimCoherent_endClaim _ _
    · exact h
  · exact h.of_same holder lease

theorem ClaimCoherent.command {c : Instr} {code : BitVec 8} {f : State → CmdOut}
    (is : commandOf c = some (code, f)) (h : ClaimCoherent s) : ClaimCoherent (f s).2.2 := by
  by_cases broken : c = .breakClaim
  · subst broken
    cases is
    unfold cmdBreakClaim
    split
    · exact h
    · exact claimCoherent_endClaim _ _
  · obtain ⟨holder, lease⟩ := (command_frame is s).claim broken
    exact h.of_same holder lease

theorem disableLink_claim (s : State) : (disableLink s).sess.holder = s.sess.holder ∧
    (disableLink s).sess.leaseTimer = s.sess.leaseTimer := by
  unfold disableLink
  split <;> simp

theorem hostKept_claimCoherent : HostKept ClaimCoherent ClaimCoherent where
  nothing := id
  command is h code := by
    have frame := finishCommand_frame code
    exact (h.command is).of_sess (frame _).2.2.1
  undefined h code := h.of_sess (by simp [finishCommand, refuse])
  softReset h := claimCoherent_free (by simp) (by simp)
  enable h f := h.of_sess (by simp)
  disable h f := h.of_same (by simp [disableLink_claim]) (by simp [disableLink_claim])
  clear h w keep := h.of_sess (by simp)
  read h := h.of_sess rfl
  register other h w := h.of_sess (writeReg_frame _ w _ other).sess

theorem kept_claimCoherent : Kept ClaimCoherent ClaimCoherent where
  line is h := h.line is
  expiry h := h.effect _
  dozes h := h.of_sess (by simp)
  host act h := hostKept_claimCoherent.host act h
  ends h := h.of_same (by simp) (by simp)
  drops h := h.of_sess (by simp)
  marks h := h.of_sess rfl
  clears h := h.of_sess rfl
  cycles h := h.of_eq (nextEdge_frame _).holder (nextEdge_frame _).lease
  pin h := h.of_sess rfl
  resets := claimCoherent_free (by simp) (by simp)
  waits h := h.of_sess rfl
  reads h := h.of_sess rfl

/-! ## The Doze Unit (R43, R144, R148) -/

/-- What `DozeCoherent` says of the link: it holds inside an event too, before the doze idle timer follows its conditions. -/
structure DozeLink (s : State) : Prop where
  off : s.link.act = .off → s.doze.state = .awake
  quiet : s.doze.state = .dozing → ownParcel s.link.act = false

theorem DozeCoherent.link (h : DozeCoherent s) : DozeLink s := ⟨h.off, h.quiet⟩

theorem DozeLink.of_frame (h : DozeLink s) (off : t.link.act = .off → s.link.act = .off)
    (own : ownParcel t.link.act = true → ownParcel s.link.act = true)
    (doze : t.doze.state = s.doze.state ∨ t.doze.state = .awake) : DozeLink t := by
  obtain same | awake := doze
  · refine ⟨fun e => same.trans (h.off (off e)), fun e => ?_⟩
    exact Bool.eq_false_iff.mpr fun sends => absurd (own sends) (by simp [h.quiet (same ▸ e)])
  · exact ⟨fun _ => awake, fun e => by simp [awake] at e⟩

theorem DozeLink.of_eq (h : DozeLink s) (act : t.link.act = s.link.act)
    (doze : t.doze.state = s.doze.state ∨ t.doze.state = .awake) : DozeLink t :=
  h.of_frame (by rw [act]; exact id) (by rw [act]; exact id) doze

theorem DozeLink.of_awake (awake : t.doze.state = .awake) : DozeLink t :=
  ⟨fun _ => awake, fun e => by simp [awake] at e⟩

theorem DozeLink.of_idle (idle : t.link.act = .idle) : DozeLink t :=
  ⟨fun e => by simp [idle] at e, fun _ => by simp [idle, ownParcel]⟩

/-- Doze is entered with the link IDLE (R143). -/
theorem DozeLink.enterDoze (h : DozeLink s) : DozeLink (enterDoze s) := by
  unfold Machine.enterDoze
  split
  · rename_i enters
    exact .of_idle enters.2.1
  · exact h

/-- A reception wakes the controller, or leaves the doze state as it is (R89, R91). -/
theorem doze_dispose (w : Bool) (r : RxResult) (s : State) :
    (dispose w r s).2.doze.state = s.doze.state ∨ (dispose w r s).2.doze.state = .awake := by
  have rouse (u : State) : (dozeRouse u).doze.state = u.doze.state ∨ (dozeRouse u).doze.state = .awake := by
    unfold dozeRouse
    repeat' split
    all_goals simp
  have dozing (hit : IdHit) (p : Parcel) (u : State) :
      (intakeDozing hit p u).2.doze.state = u.doze.state ∨ (intakeDozing hit p u).2.doze.state = .awake := by
    unfold intakeDozing
    repeat' split
    all_goals simp [wakeByFilter]
  unfold dispose
  split
  · split <;> exact .inl rfl
  · split
    · simp
    · split
      · unfold intake
        dsimp only
        repeat' split
        · simp
        · unfold intakeRouse
          dsimp only
          split
          · exact rouse s
          · simpa using rouse s
        · exact .inl rfl
        · exact dozing _ _ s
        · simp
      · exact .inl rfl
  · exact .inl rfl

theorem DozeLink.line {c : Instr} {f : State → State} (is : lineEffect c = some f) (h : DozeLink s) :
    DozeLink (f s) := by
  have frame := line_frame is s
  refine h.of_frame frame.off.mp frame.own ?_
  obtain ⟨items, -, rfl⟩ | other := line_cases is
  · refine onParcel_induction (Q := fun t => t.doze.state = s.doze.state ∨ t.doze.state = .awake) items (.inl rfl)
      fun w r _ _ => ?_
    obtain ⟨-, -, -, -, -, before, -⟩ := endAttempt_frame w r s
    obtain ⟨-, -, -, -, after⟩ := receptionEnds_blocks w r s
    rw [after, ← before]
    exact doze_dispose ..
  · exact .inl (by rw [(other s).1.doze])

theorem DozeCoherent.effect (h : DozeCoherent s) (e : Expiry) : DozeLink (e.effect s) := by
  have frame := (expiry_frame e s).1
  cases e with
  | dozeIdle =>
    simp only [Expiry.effect, onDozeIdleExpiry]
    split
    · rename_i runs
      have idle : s.link.act = .idle := by
        have := h.idle runs
        simp only [State.idleConditions, Bool.and_eq_true, decide_eq_true_eq] at this
        exact this.1.1.2
      exact .of_idle idle
    · exact h.link
  | hold | refresh | backoff | lease | mirror | stuck =>
    refine h.link.of_frame frame.off.mp frame.own (.inl ?_)
    simp only [Expiry.effect, onHoldExpiry, onRefreshExpiry, onBackoffExpiry, onMirrorExpiry, onStuckExpiry,
      onLeaseExpiry]
    repeat' split
    all_goals simp

theorem DozeLink.command {c : Instr} {code : BitVec 8} {f : State → CmdOut} (is : commandOf c = some (code, f))
    (h : DozeLink s) : DozeLink (f s).2.2 := by
  have frame := command_frame is s
  by_cases restart : c = .linkRestart
  · subst restart
    cases is
    unfold cmdLinkRestart
    split
    · exact h
    · split
      · exact h
      · exact h.of_frame (by simp [okWith]) (by simp [okWith, ownParcel]) (by simp [okWith])
  by_cases clear : c = .quarantineClear
  · subst clear
    cases is
    unfold cmdQuarantineClear
    split
    · exact h.of_eq rfl (.inl rfl)
    · exact h
  have act : (f s).2.2.link.act = s.link.act := by rw [frame.link restart clear]
  cases e : changesDoze c with
  | false => exact h.of_eq act (.inl (by rw [frame.doze e]))
  | true =>
    by_cases dozes : c = .doze
    · subst dozes
      cases is
      unfold cmdDoze
      split
      · exact h
      · rename_i on
        split
        · exact h
        · have on : s.link.act ≠ .off := by simpa [State.linkEn] using on
          have pending : DozeLink (setDoze .pending s) :=
            ⟨fun off => absurd off on, fun dozing => by simp at dozing⟩
          exact pending.enterDoze
    · refine h.of_eq act ?_
      cases c <;> simp [changesDoze] at e dozes <;> cases is
      · unfold cmdSubmit
        repeat' split
        · exact .inl rfl
        · exact .inl rfl
        · simp only [okWith, submitWake]
          repeat' split
          all_goals simp
      · unfold cmdWake
        repeat' split
        all_goals simp [okWith, refuse]

theorem hostKept_dozeLink : HostKept DozeCoherent DozeLink where
  nothing := DozeCoherent.link
  command is h code := by
    have frame := finishCommand_frame code
    obtain ⟨-, link, -, -, doze, -⟩ := frame (_ : CmdOut)
    exact (h.link.command is).of_eq (by rw [link]) (.inl (by rw [doze]))
  undefined h code := h.link.of_eq (by simp [finishCommand, refuse]) (by simp [finishCommand, refuse])
  softReset h := .of_awake (by simp)
  enable h f := by
    unfold enableLink
    repeat' split
    · exact h.link.of_eq (by simp) (by simp)
    · exact h.link.of_eq (by simp) (by simp)
    · exact h.link.of_frame (by simp) (by simp [ownParcel]) (by simp)
  disable h f := by
    unfold disableLink
    split
    · exact .of_awake (by simp)
    · exact h.link.of_eq (by simp) (by simp)
  clear h w keep := h.link.of_eq (by simp) (by simp)
  read h := h.link.of_eq rfl (.inl rfl)
  register {s r} other h w := by
    have frame := writeReg_frame s w r other
    exact h.link.of_eq (by rw [frame.link]) (.inl (by rw [frame.doze]))

theorem DozeLink.select (h : DozeLink s) : DozeLink (select s) := by
  obtain same | ⟨idle, awake, o, p, contends⟩ := select_act s
  · exact h.of_eq same (by simp)
  · exact ⟨fun off => by simp [contends] at off, fun dozing => absurd (by simpa using dozing) awake⟩

theorem idleConditions_of_eq (auto : t.cfg.dozecfg.auto = s.cfg.dozecfg.auto) (doze : t.doze.state = s.doze.state)
    (act : t.link.act = .idle ↔ s.link.act = .idle) (slots : t.calls.slots = s.calls.slots)
    (assertions : t.hold.pendAssert = s.hold.pendAssert) (releases : t.hold.pendRelease = s.hold.pendRelease)
    (manual : t.hold.manual = s.hold.manual) : t.idleConditions = s.idleConditions := by
  simp only [State.idleConditions, State.holdPending, auto, doze, act, slots, assertions, releases, manual]

/-- At the end of an event the doze idle timer runs only under its conditions (R144, log 14). -/
theorem DozeLink.endEvent (h : DozeLink s) : DozeCoherent (endEvent s) := by
  have entered : DozeLink (Machine.enterDoze (Machine.select s)) := h.select.enterDoze
  refine ⟨entered.off, entered.quiet, fun runs => ?_⟩
  have same : (Machine.endEvent s).idleConditions = (Machine.enterDoze (Machine.select s)).idleConditions :=
    idleConditions_of_eq rfl rfl .rfl rfl rfl rfl rfl
  rw [same]
  by_contra stopped
  have idle : (Machine.endEvent s).doze.idle = none := by
    simp only [Machine.endEvent, updateInt_frame, updateIdle, stopped]
    rfl
  simp [idle] at runs

theorem DozeCoherent.of_eq (h : DozeCoherent s) (act : t.link.act = s.link.act) (doze : t.doze = s.doze)
    (auto : t.cfg.dozecfg.auto = s.cfg.dozecfg.auto) (slots : t.calls.slots = s.calls.slots)
    (hold : t.hold = s.hold) : DozeCoherent t := by
  obtain ⟨off, quiet, idle⟩ := h
  refine ⟨by rw [act, doze]; exact off, by rw [act, doze]; exact quiet, ?_⟩
  rw [doze, idleConditions_of_eq auto (by rw [doze]) (by rw [act]) slots (by rw [hold]) (by rw [hold]) (by rw [hold])]
  exact idle

theorem ownParcel_dropAnswer (s : State) :
    ownParcel (dropAnswer s).link.act = true → ownParcel s.link.act = true := by
  unfold dropAnswer
  split
  · split <;> simp [ownParcel]
  · exact id

/-- Neither the passage to the next HCLK edge nor a decided answer given up is of weight to the Doze Unit. -/
theorem DozeCoherent.of_dropped (h : DozeCoherent s) (act : t.link.act = (dropAnswer s).link.act)
    (doze : t.doze.state = s.doze.state) (idle : t.doze.idle.isSome = s.doze.idle.isSome)
    (auto : t.cfg.dozecfg.auto = s.cfg.dozecfg.auto) (slots : t.calls.slots = s.calls.slots)
    (assertions : t.hold.pendAssert = s.hold.pendAssert) (releases : t.hold.pendRelease = s.hold.pendRelease)
    (manual : t.hold.manual = s.hold.manual) : DozeCoherent t := by
  have isIdle : t.link.act = .idle ↔ s.link.act = .idle := by
    rw [act, StrandBus.dropAnswer_act_iff s (by simp) (by simp)]
  have isOff : t.link.act = .off ↔ s.link.act = .off := by
    rw [act, StrandBus.dropAnswer_act_iff s (by simp) (by simp)]
  obtain ⟨off, quiet⟩ := h.link.of_frame isOff.mp (by rw [act]; exact ownParcel_dropAnswer s) (.inl doze)
  refine ⟨off, quiet, ?_⟩
  rw [idle, idleConditions_of_eq auto doze isIdle slots assertions releases manual]
  exact h.idle

theorem dozeCoherent_clear (doze : t.doze = {}) : DozeCoherent t := by
  obtain ⟨off, quiet⟩ := DozeLink.of_awake (t := t) (by rw [doze])
  exact ⟨off, quiet, fun runs => by simp [doze] at runs⟩

theorem kept_dozeCoherent : Kept DozeCoherent DozeLink where
  line is h := h.link.line is
  expiry h := h.effect _
  dozes h := h.link.enterDoze
  host act h := hostKept_dozeLink.host act h
  ends h := h.endEvent
  drops h := h.of_dropped rfl (by simp) (by simp) (by simp) (by simp) (by simp) (by simp) (by simp)
  marks h := h.of_eq rfl rfl rfl rfl rfl
  clears h := h.of_eq rfl rfl rfl rfl rfl
  cycles h := by
    have frame := nextEdge_frame
    exact h.of_dropped (frame _).act (by rw [(frame _).doze]) (frame _).idle (by rw [(frame _).cfg])
      (by rw [(frame _).calls]) (by rw [(frame _).hold]) (by rw [(frame _).hold]) (by rw [(frame _).hold])
  pin h := h.of_eq rfl rfl rfl rfl rfl
  resets := dozeCoherent_clear (by simp)
  waits h := h.of_eq rfl rfl rfl rfl rfl
  reads h := h.of_eq rfl rfl rfl rfl rfl

/-- Settles O55, invariant by invariant. -/
theorem stepKeepsHoldClaimAndDoze : Obligations.StepKeepsHoldClaimAndDoze :=
  fun _ _ run => ⟨kept_holdSets.step run, kept_claimCoherent.step run, kept_dozeCoherent.step run⟩

end

end Sys2Proof.Safety
end

section
/-! The rows that end quarantine, change a committed value, push or pop the Session Stack, or change the holder of the
claim (R42, R70, R78, R106). -/

namespace Sys2Proof.Linkage

open Sys2Proof.Machine Sys2Proof.Safety

/-! ## The claims of the own side: the entries of the Session Stack without their mirrors (R70) -/

/-- What the Session Stack says of an entry besides its mirror. -/
def claimOf (e : SessEntry) : BitVec 5 × BitVec 5 × BitVec 8 := (e.node, e.identity, e.lease)

/-- The entries of the Session Stack, top first, without their mirrors. -/
def claims (s : State) : List (BitVec 5 × BitVec 5 × BitVec 8) := s.sess.stack.map claimOf

section
variable (s : State)

theorem claims_of_stack {s t : State} (stack : t.sess.stack = s.sess.stack) : claims t = claims s := by
  rw [claims, stack, claims]

/-- A restarted mirror is no push and no pop (R73). -/
theorem claims_restartMirrors (p : Parcel) : claims (restartMirrors p s) = claims s := by
  simp only [claims, restartMirrors, raiseIf_frame, setStack_sess, List.map_map]
  refine List.map_congr_left fun e _ => ?_
  simp only [Function.comp_apply, claimOf]
  split <;> rfl

/-- A mirror that ends leaves its entry on the stack (R73). -/
theorem claims_mirrorExpires (k : Nat) : claims (mirrorExpires k s) = claims s := by
  simp only [claims, mirrorExpires, raise_frame, setStack_sess]
  refine List.ext_getElem? fun i => ?_
  rw [List.getElem?_map, List.getElem?_map, List.getElem?_modify]
  cases s.sess.stack[i]? with
  | none => rfl
  | some e => simp only [Option.map_eq_map, Option.map_some, claimOf]; split <;> rfl

/-- Outcomes push, pop, or leave the claims (R72, R74). -/
theorem claims_decideOutcome (n : SlotId) (o : CallOutcome) (i : BitVec 5) :
    claims (decideOutcome n o i s) = claims s ∨
      (s.calls.slots[n].kind = 3 ∧ o = .acked ∧ ∃ e, claims (decideOutcome n o i s) = e :: claims s) ∨
      (s.calls.slots[n].kind = 4 ∧ (o = .acked ∨ (o = .refused ∧ s.calls.slots[n].reason = some 0x04#8)) ∧
        claims (decideOutcome n o i s) = (claims s).tail) := by
  simp only [claims, decideOutcome_stack, closeCall_stack]
  split
  · rename_i pushes
    exact .inr (.inl ⟨pushes.1, pushes.2, _, by simp only [pushSession, raiseIf_frame, setStack_sess]; rfl⟩)
  · split
    · rename_i pops
      exact .inr (.inr ⟨pops.1, pops.2, List.map_tail⟩)
    · exact .inl rfl

/-- An attempt end pushes on an accepted ACK to a CLAIM, and pops on one to a RELEASE or on its NAK NOT_HOLDER (R72,
R74). -/
theorem claims_attemptEnd (own : Parcel) (r : ExchangeResult) : claims (attemptEnd own r s) = claims s ∨
    ∃ n, s.calls.current = some n ∧
      ((s.calls.slots[n].kind = 3 ∧ (∃ bytes, r = .acked bytes) ∧ ∃ e, claims (attemptEnd own r s) = e :: claims s) ∨
        (s.calls.slots[n].kind = 4 ∧ ((∃ bytes, r = .acked bytes) ∨ r = .nak 0x04) ∧
          claims (attemptEnd own r s) = (claims s).tail)) := by
  cases current : s.calls.current with
  | none => exact .inl (by simp [attemptEnd, current])
  | some n =>
    cases r with
    | acked bytes =>
      rw [StrandBus.attemptEnd_acked current]
      have calls : (restartMirrors own s).calls.slots = s.calls.slots := by simp
      rw [← claims_restartMirrors s own]
      have decided := claims_decideOutcome (StrandBus.endWith n { s.calls.slots[n] with reason := none, answer := bytes }
        (restartMirrors own s)) n .acked own.source
      simp only [StrandBus.endWith, Fin.getElem_fin, Vector.getElem_set_self] at decided
      obtain same | ⟨kind, -, e, push⟩ | ⟨kind, -, pop⟩ := decided
      · exact .inl same
      · exact .inr ⟨n, rfl, .inl ⟨kind, ⟨bytes, rfl⟩, e, push⟩⟩
      · exact .inr ⟨n, rfl, .inr ⟨kind, .inl ⟨bytes, rfl⟩, pop⟩⟩
    | nak reason =>
      rw [StrandBus.attemptEnd_of_not_acked current own _ (by simp)]
      have decided := claims_decideOutcome (StrandBus.endWith n { s.calls.slots[n] with reason := some reason } s) n
        .refused own.source
      simp only [StrandBus.endWith, Fin.getElem_fin, Vector.getElem_set_self] at decided
      obtain same | ⟨-, acked, -⟩ | ⟨kind, why, pop⟩ := decided
      · exact .inl same
      · cases acked
      · refine .inr ⟨n, rfl, .inr ⟨kind, .inr ?_, pop⟩⟩
        obtain acked | ⟨-, notHolder⟩ := why
        · cases acked
        · rw [Option.some.inj notHolder]; rfl
    | _ => exact .inl (claims_of_stack (by simp))

theorem answerResult_acked {a : Parcel} {bytes : List Byte} (is : answerResult a = .acked bytes) : a.kind = 8 := by
  unfold answerResult at is
  repeat' split at is
  all_goals cases is
  assumption

theorem answerResult_nak {a : Parcel} {reason : Byte} (is : answerResult a = .nak reason) :
    a.kind = 9 ∧ a.byte 0 = reason := by
  unfold answerResult at is
  repeat' split at is
  all_goals cases is
  exact ⟨‹_›, rfl⟩

/-- A first byte that is not 0 is there. -/
theorem head?_of_byte {a : Parcel} {b : Byte} (is : a.byte 0 = b) (nonzero : b ≠ 0) : a.payload.head? = some b := by
  unfold Parcel.byte at is
  cases payload : a.payload with
  | nil => exact absurd (by simpa [payload] using is.symm) nonzero
  | cons c l => simpa [payload] using is

/-- The window parcel of an own call pushes or pops as the answer says that R33 accepts. -/
theorem claims_endWindow (own : Parcel) (r : RxResult) : claims (endWindow own r s) = claims s ∨
    ∃ a n, accept own r = .accepted a ∧ s.calls.current = some n ∧
      ((s.calls.slots[n].kind = 3 ∧ a.kind = 8 ∧ ∃ e, claims (endWindow own r s) = e :: claims s) ∨
        (s.calls.slots[n].kind = 4 ∧ (a.kind = 8 ∨ (a.kind = 9 ∧ a.payload.head? = some 0x04#8)) ∧
          claims (endWindow own r s) = (claims s).tail)) := by
  unfold endWindow
  split
  · rename_i a ok
    refine (claims_attemptEnd s own (answerResult a)).imp_right fun ⟨n, current, changes⟩ => ⟨a, n, ok, current, ?_⟩
    obtain ⟨kind, ⟨bytes, acked⟩, push⟩ | ⟨kind, result, pop⟩ := changes
    · exact .inl ⟨kind, answerResult_acked acked, push⟩
    · refine .inr ⟨kind, ?_, pop⟩
      obtain ⟨bytes, acked⟩ | nak := result
      · exact .inl (answerResult_acked acked)
      · obtain ⟨isNak, reason⟩ := answerResult_nak nak
        exact .inr ⟨isNak, head?_of_byte reason (by decide)⟩
  · exact .inl (claims_of_stack (by simp))

/-! ## What Intake changes of the board and of the holder -/

/-- Only a unicast SWAP changes the board (R111). -/
theorem serveUnicast_board (hit : IdHit) (p : Parcel) :
    (serveUnicast hit p s).2.board = s.board ∨ (p.kind ≠ 0 ∧ p.kind ≠ 1) := by
  unfold serveUnicast
  split
  · exact .inl (by simp)
  · split
    · exact .inl (by simp)
    · split
      · exact .inl (by simp)
      · exact .inr ⟨‹_›, ‹_›⟩

/-- Of the calls that pass the claim step's kinds only a SWAP changes the board (R88, R111). -/
theorem intakeFromClaim_board (hit : IdHit) (p : Parcel) : (intakeFromClaim hit p s).2.board = s.board ∨
    (hit ≠ .broadcast ∧ p.kind ≠ 0 ∧ p.kind ≠ 1 ∧ p.kind ≠ 3 ∧ p.kind ≠ 4) := by
  unfold intakeFromClaim
  split
  · exact .inl (by simp)
  · rename_i unicast
    repeat' split
    · exact .inl (by simp)
    · exact .inl (by simp)
    · exact .inl rfl
    · exact (serveUnicast_board s hit p).imp_right fun ⟨put, fetch⟩ => ⟨unicast, put, fetch, ‹_›, ‹_›⟩

/-- Only CLAIM and RELEASE to an own identity change the holder (R78, R79). -/
theorem intakeFromClaim_holder (hit : IdHit) (p : Parcel) :
    (intakeFromClaim hit p s).2.sess.holder = s.sess.holder ∨ (hit ≠ .broadcast ∧ (p.kind = 3 ∨ p.kind = 4)) := by
  unfold intakeFromClaim
  split
  · exact .inl (by simp)
  · rename_i unicast
    repeat' split
    · exact .inr ⟨unicast, .inl ‹_›⟩
    · exact .inr ⟨unicast, .inr ‹_›⟩
    · exact .inl rfl
    · exact .inl (by simp)

theorem intakeDozing_board (hit : IdHit) (p : Parcel) : (intakeDozing hit p s).2.board = s.board ∨
    (hit ≠ .broadcast ∧ p.kind ≠ 0 ∧ p.kind ≠ 1 ∧ p.kind ≠ 3 ∧ p.kind ≠ 4) := by
  unfold intakeDozing
  split
  · simpa using intakeFromClaim_board (wakeByFilter _ s) hit p
  · split <;> exact .inl rfl
theorem intakeDozing_holder (hit : IdHit) (p : Parcel) :
    (intakeDozing hit p s).2.sess.holder = s.sess.holder ∨ (hit ≠ .broadcast ∧ (p.kind = 3 ∨ p.kind = 4)) := by
  unfold intakeDozing
  split
  · simpa using intakeFromClaim_holder (wakeByFilter _ s) hit p
  · split <;> exact .inl rfl

theorem intake_board (p : Parcel) : (intake p s).2.board = s.board ∨ (s.cfg.ident.hit p.dest ≠ .broadcast ∧
    p.kind ≠ 0 ∧ p.kind ≠ 1 ∧ p.kind ≠ 3 ∧ p.kind ≠ 4 ∧ p.kind ≠ 5 ∧ p.kind ≠ 6) := by
  have rest {t : State} (changed : t.board = s.board ∨ (s.cfg.ident.hit p.dest ≠ .broadcast ∧
      p.kind ≠ 0 ∧ p.kind ≠ 1 ∧ p.kind ≠ 3 ∧ p.kind ≠ 4)) (hold : p.kind ≠ 5) (rouse : p.kind ≠ 6) :
      t.board = s.board ∨ (s.cfg.ident.hit p.dest ≠ .broadcast ∧
        p.kind ≠ 0 ∧ p.kind ≠ 1 ∧ p.kind ≠ 3 ∧ p.kind ≠ 4 ∧ p.kind ≠ 5 ∧ p.kind ≠ 6) :=
    changed.imp_right fun ⟨hit, put, fetch, claim, release⟩ => ⟨hit, put, fetch, claim, release, hold, rouse⟩
  unfold intake
  dsimp only
  repeat' split
  · exact .inl (by simp)
  · exact .inl (by simp)
  · exact .inl rfl
  · exact rest (intakeDozing_board s _ p) ‹_› ‹_›
  · exact rest (intakeFromClaim_board s _ p) ‹_› ‹_›
theorem intake_holder (p : Parcel) : (intake p s).2.sess.holder = s.sess.holder ∨
    (s.cfg.ident.hit p.dest ≠ .broadcast ∧ (p.kind = 3 ∨ p.kind = 4)) := by
  unfold intake
  dsimp only
  repeat' split
  · exact .inl (by simp)
  · exact .inl (by simp)
  · exact .inl rfl
  · exact intakeDozing_holder s _ p
  · exact intakeFromClaim_holder s _ p

/-- The kinds of well-formed parcels are those of calls and of answers (R11, R17). -/
theorem kind_of_wellFormed {p : Parcel} (form : p.malformed = false) : p.kind.toNat ≤ 6 ∨ isAnswerKind p.kind = true := by
  simp only [Parcel.malformed, Bool.or_eq_false_iff] at form
  obtain ⟨⟨⟨⟨⟨⟨kind, -⟩, -⟩, -⟩, -⟩, -⟩, -⟩ := form
  simpa [isCallKind, or_iff_not_imp_left] using kind

/-- A call that no other kind is, is a SWAP (R11). -/
theorem kind_eq_swap {k : BitVec 4} (call : k.toNat ≤ 6)
    (others : k ≠ 0 ∧ k ≠ 1 ∧ k ≠ 3 ∧ k ≠ 4 ∧ k ≠ 5 ∧ k ≠ 6) : k = 2 := by
  revert k
  decide

theorem dest_of_hit {i : Ident} {d : BitVec 5} (unicast : i.hit d ≠ .broadcast) : d ≠ 0 := by
  rintro rfl
  exact unicast (if_pos rfl)

/-- Intake meets only calls to an own identity and broadcasts. -/
theorem dispose_board (w : Bool) (r : RxResult) (form : ∀ p, r = .good p → p.malformed = false) :
    (dispose w r s).2.board = s.board ∨
      ∃ p, r = .good p ∧ p.kind = 2 ∧ s.cfg.ident.owns p.dest = true := by
  unfold dispose
  split
  · split <;> exact .inl rfl
  · rename_i p
    split
    · exact .inl (by simp)
    · rename_i call
      split
      · rename_i dest
        refine (intake_board s p).imp_right fun ⟨unicast, others⟩ => ⟨p, rfl, ?_, dest.resolve_left (dest_of_hit unicast)⟩
        exact kind_eq_swap ((kind_of_wellFormed (form p rfl)).resolve_right call) others
      · exact .inl rfl
  · exact .inl rfl
theorem dispose_holder (w : Bool) (r : RxResult) : (dispose w r s).2.sess.holder = s.sess.holder ∨
    ∃ p, r = .good p ∧ (p.kind = 3 ∨ p.kind = 4) ∧ s.cfg.ident.owns p.dest = true := by
  unfold dispose
  split
  · split <;> exact .inl rfl
  · rename_i p
    split
    · exact .inl (by simp)
    · split
      · rename_i dest
        exact (intake_holder s p).imp_right fun ⟨unicast, kind⟩ =>
          ⟨p, rfl, kind, dest.resolve_left (dest_of_hit unicast)⟩
      · exact .inl rfl
  · exact .inl rfl

end

/-! ## The rows that may change each piece -/

/-- A parcel of one of these kinds, sent to an own identity, is received with a good result (R37). -/
def Receives (c : Instr) (s : State) (kinds : List (BitVec 4)) : Prop := ∃ items p,
  c = .parcelReceived items ∧ (∃ w, s.link.act = .listening w) ∧ receive s.bt items = some (.good p) ∧
    p.kind ∈ kinds ∧ p.dest ≠ 0 ∧ (p.dest = s.cfg.ident.primary ∨ p.dest = s.cfg.ident.aliasId)

/-- An answer that R33 accepts to the own call of this kind. -/
def Accepts (c : Instr) (s : State) (kind : BitVec 4) (holds : Parcel → Prop) : Prop := ∃ items r call a n,
  c = .parcelReceived items ∧ s.link.act = .listening (some call) ∧ receive s.bt items = some r ∧
    accept call r = .accepted a ∧ s.calls.current = some n ∧ s.calls.slots[n].kind = kind ∧ holds a

/-- The four pieces of state change in the rows that the rules name. -/
structure OnlyThese (c : Instr) (s t : State) : Prop where
  quarantine : s.link.quarantine = true → t.link.quarantine = false →
    c = .quarantineClear ∨ c = .linkRestart ∨ isReset c = true
  committed : ∀ i : Fin 64, t.board[i].committed ≠ s.board[i].committed →
    (∃ arg, c = .publish arg ∨ c = .publishForce arg) ∨ Receives c s [2] ∨ c = .reset ∨ c = .powerOn
  stack : claims t = claims s ∨ (Accepts c s 3 (fun a => a.kind = 8) ∧ ∃ e, claims t = e :: claims s) ∨
    (Accepts c s 4 (fun a => a.kind = 8 ∨ (a.kind = 9 ∧ a.payload.head? = some 0x04#8)) ∧
      claims t = (claims s).tail) ∨
    (c = .sessionDrop ∧ claims t = (claims s).tail) ∨ (isReset c = true ∧ claims t = [])
  holder : t.sess.holder ≠ s.sess.holder → Receives c s [3, 4] ∨ c = .leaseExpiry ∨ c = .breakClaim ∨ isReset c = true

/-- None of the four pieces changes, but that quarantine may begin. -/
structure Keeps (s t : State) : Prop where
  quarantine : s.link.quarantine = true → t.link.quarantine = true
  committed : ∀ i : Fin 64, t.board[i].committed = s.board[i].committed
  stack : claims t = claims s
  holder : t.sess.holder = s.sess.holder

section
variable {c : Instr} {s t u : State}

theorem Keeps.refl (s : State) : Keeps s s := ⟨id, fun _ => rfl, rfl, rfl⟩
theorem Keeps.trans (h : Keeps s t) (g : Keeps t u) : Keeps s u :=
  ⟨fun q => g.quarantine (h.quarantine q), fun i => (g.committed i).trans (h.committed i), g.stack.trans h.stack,
    g.holder.trans h.holder⟩
theorem Keeps.of_eq (quarantine : t.link.quarantine = s.link.quarantine) (board : t.board = s.board)
    (sess : t.sess = s.sess) : Keeps s t :=
  ⟨fun q => quarantine.trans q, fun _ => by rw [board], claims_of_stack (by rw [sess]), by rw [sess]⟩

theorem OnlyThese.of_keeps (h : Keeps s t) : OnlyThese c s t where
  quarantine q ends := by simp [h.quarantine q] at ends
  committed i changed := absurd (h.committed i) changed
  stack := .inl h.stack
  holder changed := absurd h.holder changed

/-- What comes after the effect and keeps the four pieces changes nothing of what a row may do. -/
theorem OnlyThese.then (h : OnlyThese c s t) (g : Keeps t u) : OnlyThese c s u where
  quarantine q ends := h.quarantine q <| by
    by_contra stays
    simp [g.quarantine (by simpa using stays)] at ends
  committed i changed := h.committed i (by rwa [← g.committed i])
  stack := by rw [g.stack]; exact h.stack
  holder changed := h.holder (by rwa [← g.holder])

theorem keeps_endEvent (s : State) : Keeps s (endEvent s) :=
  ⟨fun q => by simpa using q, fun _ => by simp, claims_of_stack (by simp), by simp⟩
theorem keeps_afterHost (s : State) : Keeps s (afterHost s) :=
  (keeps_endEvent s).trans (.of_eq rfl rfl rfl)
theorem keeps_markEdge (s : State) : Keeps s (markEdge s) := .of_eq rfl rfl rfl
theorem keeps_dropAnswer (s : State) : Keeps s (dropAnswer s) := .of_eq (by simp) (by simp) (by simp)
theorem Keeps.of_send (f : SendFrame s t) : Keeps s t :=
  ⟨f.quarantine, fun _ => by rw [f.board], claims_of_stack f.stack, f.holder⟩

/-! ## Line events -/

/-- What the end of a reception may change: an accepted answer the stack, a SWAP a committed value, a CLAIM or a RELEASE
the holder. -/
theorem onlyThese_receptionEnds {items : List LineItem} {w : Option Parcel} {r : RxResult}
    (a : s.link.act = .listening w) (rx : receive s.bt items = some r) :
    OnlyThese (.parcelReceived items) s (receptionEnds w r s) := by
  obtain ⟨-, sess, board, -, -⟩ := receptionEnds_blocks w r s
  obtain ⟨cfg, -, -, boardBefore, -, -, holderBefore, -⟩ := endAttempt_frame w r s
  have form (p : Parcel) (good : r = .good p) : p.malformed = false := wellFormed_of_receive (good ▸ rx)
  refine ⟨fun q ends => ?_, fun i changed => ?_, ?_, fun changed => ?_⟩
  · simp [(receptionEnds_frame s w r a).quarantine q] at ends
  · rw [board] at changed
    obtain same | ⟨p, rfl, swap, own⟩ := dispose_board (StrandBus.endAttempt w r (countReception r s)) w.isSome r form
    · exact absurd (by rw [disposed, same, boardBefore]) changed
    · rw [cfg, StrandBus.owns_iff] at own
      exact .inr (.inl ⟨items, p, rfl, ⟨w, a⟩, rx, by simp [swap], own⟩)
  · have stack : claims (receptionEnds w r s) = claims (StrandBus.endAttempt w r (countReception r s)) :=
      claims_of_stack (by rw [sess, disposed]; simp)
    rw [stack]
    have counted : claims (countReception r s) = claims s := claims_of_stack (by simp)
    cases w with
    | none => exact .inl counted
    | some own =>
      obtain same | ⟨b, n, ok, current, changes⟩ := claims_endWindow (countReception r s) own r
      · exact .inl (same.trans counted)
      · rw [counted] at changes
        simp only [countReception_frame] at current changes
        obtain ⟨kind, ack, push⟩ | ⟨kind, answer, pop⟩ := changes
        · exact .inr (.inl ⟨⟨items, r, own, b, n, rfl, a, rx, ok, current, kind, ack⟩, push⟩)
        · exact .inr (.inr (.inl ⟨⟨items, r, own, b, n, rfl, a, rx, ok, current, kind, answer⟩, pop⟩))
  · rw [sess] at changed
    obtain same | ⟨p, rfl, kind, own⟩ := dispose_holder (StrandBus.endAttempt w r (countReception r s)) w.isSome r
    · exact absurd (by rw [disposed, same, holderBefore]) changed
    · rw [cfg, StrandBus.owns_iff] at own
      exact .inl ⟨items, p, rfl, ⟨w, a⟩, rx, by simpa using kind, own⟩

theorem onlyThese_line {f : State → State} (is : lineEffect c = some f) (s : State) : OnlyThese c s (f s) := by
  obtain ⟨items, rfl, rfl⟩ | other := line_cases is
  · exact onParcel_induction items (.of_keeps (.refl s)) fun w r a rx => onlyThese_receptionEnds a rx
  · exact .of_keeps (.of_send (other s).1)

/-! ## Expiries -/

theorem claims_effect (e : Expiry) (s : State) : claims (e.effect s) = claims s := by
  cases e with
  | mirror k =>
    simp only [Expiry.effect, onMirrorExpiry]
    split
    · exact claims_mirrorExpires s k
    · rfl
  | hold | refresh | backoff | lease | stuck | dozeIdle =>
    refine claims_of_stack ?_
    simp only [Expiry.effect, onHoldExpiry, onRefreshExpiry, onBackoffExpiry, onLeaseExpiry, onStuckExpiry,
      onDozeIdleExpiry]
    repeat' split
    all_goals simp

theorem onlyThese_effect (e : Expiry) (before : Keeps s u) : OnlyThese e.row s (e.effect u) := by
  obtain ⟨frame, board⟩ := expiry_frame e u
  refine ⟨fun q ends => ?_, fun i changed => ?_, .inl ((claims_effect e u).trans before.stack), fun changed => ?_⟩
  · simp [frame.quarantine (before.quarantine q)] at ends
  · exact absurd (by rw [board]; exact before.committed i) changed
  · obtain rfl | ⟨holder, -⟩ := expiry_claim e u
    · exact .inr (.inl rfl)
    · exact absurd (holder.trans before.holder) changed

/-! ## Host accesses -/

theorem claims_sessionDrop (s : State) : claims (cmdSessionDrop s).2.2 = claims s ∨
    claims (cmdSessionDrop s).2.2 = (claims s).tail := by
  unfold cmdSessionDrop
  split
  · exact .inl rfl
  · split
    · exact .inl rfl
    · exact .inr (by simp [okWith, claims])

theorem onlyThese_command {code : BitVec 8} {f : State → CmdOut} (is : commandOf c = some (code, f)) (s : State) :
    OnlyThese c s (f s).2.2 := by
  have frame := command_frame is s
  refine ⟨fun q ends => ?_, fun i changed => ?_, ?_, fun changed => ?_⟩
  · by_contra other
    simp only [not_or] at other
    obtain ⟨clear, restart, -⟩ := other
    simp [frame.link restart clear, q] at ends
  · cases publishes : changesCommitted c with
    | false => exact absurd (frame.committed publishes i) changed
    | true => cases c <;> simp [changesCommitted] at publishes <;> simp
  · by_cases drop : c = .sessionDrop
    · subst drop
      cases is
      exact (claims_sessionDrop s).imp_right fun pop => .inr (.inr (.inl ⟨rfl, pop⟩))
    · exact .inl (claims_of_stack (frame.stack drop))
  · by_contra other
    simp only [not_or] at other
    obtain ⟨-, -, broken, -⟩ := other
    exact changed (frame.claim broken).1

theorem keeps_finishCommand (code : BitVec 8) (out : CmdOut) : Keeps out.2.2 (finishCommand code out) := by
  obtain ⟨-, link, sess, -, -, board, -⟩ := finishCommand_frame code out
  exact .of_eq (by rw [link]) board sess

/-- A code that section 12.3 does not name is BAD_CODE (R165). -/
theorem runCommand_undefined {code : BitVec 8} (undefined : (Instr.badCode code).wellFormed = true) (arg : BitVec 24)
    (s : State) : runCommand code arg s = refuse .badCode s := by
  have names : commandCodes.contains code = false := by simpa [Instr.wellFormed] using undefined
  simp only [commandCodes, List.contains_cons, List.contains_nil, Bool.or_false, Bool.or_eq_false_iff,
    beq_eq_false_iff_ne] at names
  simp only [runCommand, names, if_false]

theorem keeps_write (f : WriteFrame s t) : Keeps s t :=
  ⟨fun q => by rw [f.link]; exact q, f.committed, claims_of_stack (by rw [f.sess]), by rw [f.sess]⟩

theorem keeps_enable (f : SctlFields) (s : State) : Keeps s (enableLink (writeFields f s)) := by
  refine .of_eq ?_ (by simp) (by simp)
  unfold enableLink
  repeat' split
  all_goals simp
theorem keeps_disable (f : SctlFields) (s : State) : Keeps s (disableLink (writeFields f s)) := by
  refine ⟨?_, fun _ => by simp, claims_of_stack ?_, by simp [disableLink_claim]⟩
  all_goals
    unfold disableLink
    split <;> simp

theorem onlyThese_softReset (s : State) : OnlyThese .softReset s (softReset s) where
  quarantine _ _ := .inr (.inr rfl)
  committed i changed := absurd (by simp [softReset, BoardEntry.absorb]) changed
  stack := .inr (.inr (.inr (.inr ⟨rfl, rfl⟩)))
  holder _ := .inr (.inr (.inr rfl))

theorem isOther_of_registerRow {r : Reg} {w : Word} (is : registerRow r w = some c) : isOther r = true := by
  cases r <;> first | rfl | cases is

theorem onlyThese_host {f : State → State} (act : HostAct c f) (form : c.wellFormed = true) (s : State) :
    OnlyThese c s (f s) := by
  cases act with
  | command is => exact (onlyThese_command is s).then (keeps_finishCommand _ _)
  | badCode code =>
    simp only [runCommand_undefined form]
    exact .of_keeps (keeps_finishCommand code (refuse .badCode s))
  | softReset => exact onlyThese_softReset s
  | enable f => exact .of_keeps (keeps_enable f s)
  | disable f => exact .of_keeps (keeps_disable f s)
  | clear w e => exact .of_keeps (.of_eq (by simp) (by simp) (by simp))
  | read => exact .of_keeps (.of_eq rfl rfl rfl)
  | register is => exact .of_keeps (keeps_write (writeReg_frame s _ _ (isOther_of_registerRow is)))
  | any off w =>
    refine .of_keeps ?_
    unfold writeOffset
    split
    · rename_i r found
      have other : r.hasWriteRow = false := by simpa [Instr.wellFormed, found] using form
      exact keeps_write (writeReg_frame s w r (by cases r <;> simp [Reg.hasWriteRow] at other <;> rfl))
    · exact .refl s

/-! ## Rows -/

theorem found_of_line {f : State → State} (is : lineEffect c = some f) : found c s = lineEdge s := by
  cases c <;> cases is <;> rfl
theorem found_of_expiry (e : Expiry) : found e.row s = s := by cases e <;> rfl
theorem found_of_host {f : State → State} (act : HostAct c f) : found c s = hostEdge s := by
  cases act with
  | command is => cases c <;> cases is <;> rfl
  | @register _ r _ is => cases r <;> cases is <;> rfl
  | _ => rfl

/-- While RESET# is low nothing expires (R158). -/
theorem hostEdge_of_low (low : s.inReset = true) : hostEdge s = dropAnswer s := by
  have stays (l : List Expiry) : ∀ t : State, t.inReset = true → l.foldl expire t = t := by
    induction l with
    | nil => exact fun _ _ => rfl
    | cons e l ih =>
      intro t low
      have one : expire t e = t := by
        unfold expire
        rw [timerEvent, unlessReset, if_pos low, ite_self]
      rw [List.foldl_cons, one, ih t low]
  rw [← expireDue_eq, expireDue, stays _ _ (by simpa using low)]

/-- While RESET# is low a row finds and leaves the four pieces as they are (R158). -/
theorem keeps_of_low (low : s.inReset = true) : Keeps (hostEdge s) s ∧ Keeps (lineEdge s) s := by
  have edge : Keeps (hostEdge s) s := by
    rw [hostEdge_of_low low]
    exact .of_eq (by simp) (by simp) (by simp)
  refine ⟨edge, ?_⟩
  have opened : Keeps (lineEdge s) (if s.events.edgeBegun then clearEdge (hostEdge s) else s) := .of_eq rfl rfl rfl
  refine opened.trans ?_
  split
  · exact Keeps.trans (t := hostEdge s) (.of_eq (by simp) (by simp) (by simp)) edge
  · exact .refl s

theorem onlyThese_reset {low : Bool} (is : c = .reset ∨ c = .powerOn) (s : State) :
    OnlyThese c s (hardReset low s) := by
  have resets : isReset c = true := by obtain rfl | rfl := is <;> rfl
  exact ⟨fun _ _ => .inr (.inr resets), fun _ _ => .inr (.inr is), .inr (.inr (.inr (.inr ⟨resets, rfl⟩))),
    fun _ => .inr (.inr (.inr resets))⟩

theorem onlyThese_exec {now : State} (form : c.wellFormed = true) (run : exec c now = .next t) :
    OnlyThese c (found c now) t := by
  have given {u : State} (e : exec c now = .next u) (h : OnlyThese c (found c now) u) : OnlyThese c (found c now) t := by
    obtain rfl : t = u := by rw [run] at e; exact Host.Outcome.next.inj e
    exact h
  cases rowKind c with
  | line is =>
    rw [found_of_line is] at *
    refine given (exec_of_line is) ?_
    cases low : now.inReset with
    | true => rw [lineEvent_low _ low]; exact .of_keeps (keeps_of_low low).2
    | false => rw [lineEvent_high _ low]; exact (onlyThese_line is _).then (keeps_endEvent _)
  | expiry e =>
    rw [found_of_expiry] at *
    refine given (exec_expiry now e) ?_
    unfold timerEvent unlessReset
    split
    · exact .of_keeps (.refl now)
    · exact (onlyThese_effect e ((keeps_dropAnswer now).trans (keeps_markEdge _))).then (keeps_endEvent _)
  | dozeEntered =>
    refine given rfl (.of_keeps ?_)
    unfold timerEvent unlessReset
    split
    · exact .refl now
    · refine (((keeps_dropAnswer now).trans (keeps_markEdge _)).trans ?_).trans (keeps_endEvent _)
      exact .of_eq (by simp) (by simp) (by simp)
  | host act =>
    rw [found_of_host act] at *
    cases low : now.inReset with
    | true =>
      by_cases read : c = .evstReadClear
      · subst read
        refine given (exec_evstReadClear_low low) (.of_keeps ((keeps_of_low low).1.trans ?_))
        exact .of_eq rfl rfl rfl
      · refine given (exec_of_host act (.inr read)) ?_
        rw [hostEvent_low _ low]
        exact .of_keeps (keeps_of_low low).1
    | false =>
      refine given (exec_of_host act (.inl low)) ?_
      rw [hostEvent_high _ low]
      exact (onlyThese_host act form _).then (keeps_afterHost _)
  | reset =>
    refine given (exec_reset now) ?_
    split <;> exact onlyThese_reset (.inl rfl) now
  | powerOn => exact given (exec_powerOn now) (onlyThese_reset (.inr rfl) now)

end

/-- Settles O60, row by row. -/
theorem onlyTheseRowsChange : Obligations.OnlyTheseRowsChange := by
  intro c now s t form run found
  subst found
  obtain ⟨quarantine, committed, stack, holder⟩ := onlyThese_exec form run
  exact ⟨quarantine, committed, stack, holder⟩

end Sys2Proof.Linkage
end

section
/-! What faults on own parcels and their clean ends leave (R28 to R32, R40 to R42). -/

namespace Sys2Proof.Linkage

open Sys2Proof.Machine Sys2Proof.Safety

section
variable (s : State)

/-! ## Faults -/

/-- The fault counter saturates at 15, and quarantine begins where it reaches a FAULT_LIMIT other than 0 (R41, R42). -/
theorem countFault_eq {limit : BitVec 4} (is : s.cfg.linkcfg.faultLimit = limit) :
    let n : BitVec 4 := if s.link.faults = 15 then 15 else s.link.faults + 1
    let enters := decide (limit ≠ 0 ∧ limit.toNat ≤ n.toNat ∧ s.link.quarantine = false)
    countFault s = raiseIf enters .quarantine
      { s with link := { s.link with faults := n, quarantine := s.link.quarantine || enters } } := by
  intro n enters
  have counted : (if s.link.faults = 15 then s.link.faults else s.link.faults + 1) = n := by
    simp only [n]
    split
    · assumption
    · rfl
  have begins : (decide (limit ≠ 0) && decide (limit.toNat ≤ n.toNat) && !s.link.quarantine) = enters := by
    simp [enters, Bool.and_assoc]
  simp only [countFault, is, counted]
  rw [← begins]

variable {s}

theorem onBitClash_call {p : Parcel} {b : Nat} (a : s.link.act = .transmitting .call p) (after : 16 ≤ b)
    (within : b < 42 + 8 * p.payload.length) : onBitClash b s = lineUp (toIdle .ignoring (attemptEnd p (.broken .bitClash)
      (countFault (if b < 20 then nodeConflict s else s)))) := by
  have tag : (inTagField b = true) ↔ b < 20 := by simp [inTagField, Config.arbitrationBits, Config.tagBits]; omega
  have inParcel : Config.arbitrationBits ≤ b ∧ b < p.bitCount := ⟨after, within⟩
  simp only [onBitClash, a, if_pos inParcel, true_and, tag, rowHigh_eq]
  rfl
theorem onBitClash_hold {k : HoldKind} {p : Parcel} {b : Nat} (a : s.link.act = .transmitting (.hold k) p)
    (after : 16 ≤ b) (within : b < 42 + 8 * p.payload.length) :
    onBitClash b s = lineUp (toIdle .ignoring (countFault s)) := by
  have inParcel : Config.arbitrationBits ≤ b ∧ b < p.bitCount := ⟨after, within⟩
  simp only [onBitClash, a, if_pos inParcel, reduceCtorEq, false_and, if_false, rowHigh_eq]
  rfl
theorem onBitClash_answer {p : Parcel} {b : Nat} (a : s.link.act = .answering p true)
    (within : b < 42 + 8 * p.payload.length) : onBitClash b s = lineUp (toIdle .ignoring (countFault s)) := by
  have inParcel : b < p.bitCount := within
  simp only [onBitClash, a, if_pos inParcel, rowHigh_eq]

theorem markSeen_toIdle (bus : Bus) (t : State) : markSeen (toIdle bus t) = markLow (toIdle bus t) :=
  markSeen_eq _ (by simp) (by simp)

theorem onMarkFault_call {p : Parcel} (a : s.link.act = .transmitting .call p) :
    onMarkFault s = markLow (toIdle .ignoring (attemptEnd p (.broken .markFault) (countFault (count .markFaults s)))) := by
  simp only [onMarkFault, a, markSeen_toIdle]
  rfl
theorem onMarkFault_hold {k : HoldKind} {p : Parcel} (a : s.link.act = .transmitting (.hold k) p) :
    onMarkFault s = markLow (toIdle .ignoring (countFault (count .markFaults s))) := by
  simp only [onMarkFault, a, markSeen_toIdle]
  rfl
theorem onMarkFault_answer {p : Parcel} (a : s.link.act = .answering p true) :
    onMarkFault s = markLow (toIdle .ignoring (countFault (count .markFaults s))) := by
  simp only [onMarkFault, a, markSeen_toIdle]
/-- A mark fault in contention is a lost contention, and no fault (R28). -/
theorem onMarkFault_contending {o : Owner} {p : Parcel} (a : s.link.act = .contending o p) :
    onMarkFault s = markLow (toIdle .ignoring (reportLost o (count .markFaults s))) := by
  simp only [onMarkFault, a, markSeen_toIdle]

end

/-- Settles O39, clause by clause in the order of the statement. -/
theorem faultsOnOwnParcels : Obligations.FaultsOnOwnParcels := by
  intro bit now s high found
  subst found
  dsimp only
  rw [exec_bitClash now high, exec_markFault now high]
  generalize lineEdge now = s
  have counts (t : State) (cfg : t.cfg = s.cfg) := countFault_eq t (congrArg (·.linkcfg.faultLimit) cfg)
  refine ⟨fun p a after within => ?_, fun k p a after within => ?_, fun p a within => ?_, fun p a => ?_,
    fun k p a => ?_, fun p a => ?_, fun p a => ?_, fun k p a => ?_⟩
  · rw [onBitClash_call a after within]
    split
    · rw [counts _ (by simp)]; rfl
    · rw [counts _ rfl]
  · rw [onBitClash_hold a after within, counts _ rfl]
  · rw [onBitClash_answer a within, counts _ rfl]
  · rw [onMarkFault_call a, counts _ (by simp)]
  · rw [onMarkFault_hold a, counts _ (by simp)]
  · rw [onMarkFault_answer a, counts _ (by simp)]
  · rw [onMarkFault_contending a]; rfl
  · rw [onMarkFault_contending a]; rfl

/-! ## Own parcels sent cleanly, and windows without an answer -/

section
variable {s : State}

/-- The refresh timer runs for HOLD_TIME, 0 treated as 1, less the margin, and for 1 quantum at least (R125). -/
theorem refreshQuanta_eq (c : HoldCfg) :
    c.refreshQuanta = max 1 (max 1 c.holdTime.toNat - c.refreshMargin.toNat) := by
  have time : c.assertTime.toNat = max 1 c.holdTime.toNat := by
    unfold HoldCfg.assertTime
    split
    · rename_i zero
      simp [zero]
    · rename_i nonzero
      have : c.holdTime.toNat ≠ 0 := fun zero => nonzero (BitVec.eq_of_toNat_eq zero)
      omega
  simp only [HoldCfg.refreshQuanta, time]
  split <;> omega

theorem onSentCleanly_unicast {p : Parcel} (a : s.link.act = .transmitting .call p) (dest : p.dest ≠ 0) :
    onSentCleanly s =
      lineUp { sentOk s with link := { (sentOk s).link with act := .awaiting p, callAge := some 0 } } := by
  simp only [onSentCleanly, a, rowHigh_eq]
  exact if_pos ⟨trivial, dest⟩
theorem onSentCleanly_broadcast {p : Parcel} (a : s.link.act = .transmitting .call p) (dest : p.dest = 0) :
    onSentCleanly s = lineUp (toIdle .busy (attemptEnd p .sent (sentOk s))) := by
  simp [onSentCleanly, a, dest, rowHigh_eq, reportSent]
theorem onSentCleanly_hold {k : HoldKind} {p : Parcel} (a : s.link.act = .transmitting (.hold k) p) :
    onSentCleanly s = lineUp (toIdle .busy (holdSent k p (sentOk s))) := by
  simp [onSentCleanly, a, rowHigh_eq, reportSent]
theorem holdSent_sentOk (k : HoldKind) (p : Parcel) : holdSent k p (sentOk s) = raise .holdOut { sentOk s with
    hold := (holdSent k p s).hold } := by
  cases k <;> simp [holdSent, State.quantum, State.div]
theorem onAnswerSent_eq {p : Parcel} (a : s.link.act = .answering p true) :
    onAnswerSent s = lineUp (toIdle .busy (sentOk s)) := by
  simp [onAnswerSent, a, rowHigh_eq]

theorem onWindowExpiry_high {p : Parcel} (a : s.link.act = .awaiting p) (line : s.link.line.low = none) :
    onWindowExpiry s = lineUp (toIdle .busy (attemptEnd p .noAnswer s)) := by
  simp [onWindowExpiry, a, line, rowHigh_eq]
/-- A pulse that is still low at the window's end is awaited (R32). -/
theorem onWindowExpiry_low {p : Parcel} (a : s.link.act = .awaiting p) (line : s.link.line.low ≠ none) :
    onWindowExpiry s = s := by
  simp [onWindowExpiry, a, Option.isSome_iff_ne_none.mpr line]
theorem onStrayPulse_outlasts {p : Parcel} (a : s.link.act = .awaiting p) :
    onStrayPulse true s = lineUp (toIdle .busy (attemptEnd p .noAnswer s)) := by
  simp [onStrayPulse, a, rowHigh_eq]

end

/-- Settles O40, clause by clause in the order of the statement. -/
theorem ownParcelsSent : Obligations.OwnParcelsSent := by
  intro now s high found
  subst found
  dsimp only
  rw [exec_sentCleanly now high, exec_answerSent now high, exec_answerWindowExpiry now high, exec_strayPulse now high]
  generalize lineEdge now = s
  refine ⟨fun p a dest => ?_, fun p a dest => ?_, fun p a => ?_, fun p a => ?_, fun p a => ?_, fun p a => ?_,
    fun p a => ⟨fun line => ?_, fun line => ?_, ?_⟩⟩
  · rw [onSentCleanly_unicast a dest]; rfl
  · rw [onSentCleanly_broadcast a dest]; rfl
  · rw [onSentCleanly_hold a, holdSent_sentOk, ← refreshQuanta_eq]; rfl
  · rw [onSentCleanly_hold a, holdSent_sentOk]; rfl
  · rw [onSentCleanly_hold a, holdSent_sentOk]; rfl
  · rw [onAnswerSent_eq a]; rfl
  · rw [onWindowExpiry_high a line]
  · rw [onWindowExpiry_low a line]
  · rw [onStrayPulse_outlasts a]

end Sys2Proof.Linkage
end

section
/-! Abandonment, the link enabled and disabled, the verdict on a window parcel (R21 to R23, R33, R55, R66). -/

namespace Sys2Proof.Linkage

open Sys2Proof.Machine Sys2Proof.Safety

/-! ## Abandonment -/

section
variable {s : State} {n : SlotId} (h : s.calls.current = some n)
include h

theorem callAbandoned_eq :
    let x := s.calls.slots[n]
    let u := { s with calls := { s.calls with current := none }, link := { s.link with callAge := none } }
    callAbandoned s = if x.cancelPending then decideOutcome n .cancelled 0 u else u := by
  simp only [callAbandoned, h]
  rfl

/-- A withdrawn attempt counts no more (R55). -/
theorem callWithdrawn_eq :
    let x := s.calls.slots[n]
    let less := { s with
      calls := { s.calls with current := none, slots := s.calls.slots.set n { x with attempts := x.attempts - 1 } }
      link := { s.link with callAge := none } }
    callWithdrawn s = if x.cancelPending then decideOutcome n .cancelled 0 less else less := by
  simp only [callWithdrawn, h]
  rfl

end

/-- No report of a call is open outside its report sequence (R29). -/
theorem abandon_other {s : State} (other : ownCall s.link.act = false) : abandon s = s := by
  unfold abandon
  split
  · rename_i o p a
    cases o with
    | call => simp [a, ownCall] at other
    | hold k => rfl
  · rename_i o p a
    cases o with
    | call => simp [a, ownCall] at other
    | hold k => rfl
  · rename_i p a
    simp [a, ownCall] at other
  · rename_i p a
    simp [a, ownCall] at other
  · rfl

/-- Settles O15: each activity of an own call is abandoned by its report. -/
theorem abandonmentWithdraws : Obligations.AbandonmentWithdraws := by
  refine fun s => ⟨fun n current => ⟨fun p a => ?_, fun ⟨p, a⟩ => ?_⟩, abandon_other⟩
  · have reports : abandon s = callAbandoned s := by simp only [abandon, a, reportAbandoned]
    rw [reports, callAbandoned_eq current]
  · have reports : abandon s = callWithdrawn s := by
      obtain a | a | a := a <;> simp only [abandon, a, reportWithdrawn]
    rw [reports, callWithdrawn_eq current]

/-! ## LINK_EN (R21, R23) -/

section
variable (s : State)

theorem enableLink_on (on : s.link.act ≠ .off) : enableLink s = s := by
  simp [enableLink, State.linkEn, on]
theorem enableLink_refused (off : s.link.act = .off) (zero : s.cfg.ident.primary = 0) :
    enableLink s = raise .configRefused s := by
  simp only [enableLink, State.linkEn, off, zero]
  rfl
theorem enableLink_settles (off : s.link.act = .off) (primary : s.cfg.ident.primary ≠ 0) :
    enableLink s = { s with link := { s.link with act := .settling, bus := .ignoring, line := { s.link.line with
      stuck := if s.link.line.low.isSome then Timer.start s.div (s.cfg.linkcfg.stuckLimit.toNat * 100) else none } } } := by
  rw [← stuckTimer_zero]
  rw [enableLink, State.linkEn, off, if_neg (by simp), if_neg primary]
  rfl

theorem disableLink_off (off : s.link.act = .off) : disableLink s = s := by
  simp [disableLink, State.linkEn, off]
/-- The activity is abandoned with SLINE released first, which the abandonment does not look at (R22). -/
theorem disableLink_on (on : s.link.act ≠ .off) : disableLink s = { abandon s with
    link := { (abandon s).link with act := .off, bus := .ignoring, line := { lineReleased s with stuck := none } }
    doze := { s.doze with state := .awake } } := by
  rw [disableLink, State.linkEn, decide_eq_true on, if_pos rfl, releaseLine_eq, abandon_setLine]
  simp [setDoze]

end

/-- Settles O14, by the present link state and PRIMARY. -/
theorem linkEnabledAndDisabled : Obligations.LinkEnabledAndDisabled := by
  intro f now s high found
  dsimp only
  rw [exec_linkEnable now high, exec_linkDisable now high, ← found]
  constructor
  · split
    · rw [enableLink_on _ ‹_›]; rfl
    · rename_i off
      rw [ne_eq, not_not] at off
      split
      · rw [enableLink_refused (writeFields f s) off ‹_›]; rfl
      · rw [enableLink_settles (writeFields f s) off ‹_›]; rfl
  · split
    · rw [disableLink_off _ ‹_›]; rfl
    · rw [disableLink_on _ ‹_›]; rfl

/-! ## The verdict on a window parcel (R33) -/

section
variable {own p : Parcel} {s : State} {r : RxResult}

/-- An attempt end with an answer fault: LAST_FAULT and ANSWER_FAULT tell of it (R34, R35). -/
theorem endWindow_fault {code : BitVec 4} (verdict : accept own r = .fault code) : endWindow own r s =
    attemptEnd own (.answerFault code) (raise .answerFault { s with link := { s.link with lastFault := code } }) := by
  simp only [endWindow, verdict]
theorem endWindow_accepted {a : Parcel} (verdict : accept own r = .accepted a) :
    endWindow own r s = attemptEnd own (answerResult a) s := by
  simp only [endWindow, verdict]

theorem accept_of_whole (whole : r = .good p ∨ r = .malformed p) : accept own r = acceptParcel own p := by
  obtain rfl | rfl := whole <;> rfl

end

/-- Settles O43, check by check. -/
theorem windowVerdict : Obligations.WindowVerdict := by
  refine fun own r s => ⟨fun truncated => ?_, fun corrupt => ?_, fun p whole => ?_⟩
  · refine endWindow_fault ?_
    obtain rfl | rfl | rfl := truncated <;> rfl
  · subst corrupt
    exact endWindow_fault rfl
  intro fits
  have fitting : fittingLength own p.kind = fits := by
    simp only [fittingLength, fits, ite_not]
    rfl
  have verdict : accept own r = acceptParcel own p := accept_of_whole whole
  have noAnswer : (!isAnswerKind p.kind) = true ↔ p.kind ≠ 8 ∧ p.kind ≠ 9 ∧ p.kind ≠ 10 := by
    have := StrandBus.isAnswerKind_iff p.kind
    cases k : isAnswerKind p.kind <;> simp only [k] at this ⊢ <;> tauto
  simp only [acceptParcel, noAnswer, fitting] at verdict
  split
  · exact endWindow_fault (verdict.trans (if_pos ‹_›))
  rename_i answers
  rw [if_neg answers] at verdict
  split
  · exact endWindow_fault (verdict.trans (if_pos ‹_›))
  rename_i dest
  rw [if_neg dest] at verdict
  split
  · exact endWindow_fault (verdict.trans (if_pos ‹_›))
  rename_i source
  rw [if_neg source] at verdict
  split
  · exact endWindow_fault (verdict.trans (if_pos ‹_›))
  rename_i cls
  rw [if_neg cls] at verdict
  split
  · exact endWindow_fault (verdict.trans (if_pos ‹_›))
  rename_i tag
  rw [if_neg tag] at verdict
  split
  · exact endWindow_fault (verdict.trans (if_pos ‹_›))
  rename_i length
  rw [if_neg length] at verdict
  have accepted := endWindow_accepted (s := s) verdict
  unfold answerResult at accepted
  split
  · rwa [if_pos ‹_›] at accepted
  rename_i ack
  rw [if_neg ack] at accepted
  split
  · rwa [if_pos ‹_›] at accepted
  · rwa [if_neg ‹_›] at accepted

end Sys2Proof.Linkage
end

section
/-! What the end of every event leaves: the selection, a pending doze, the doze idle timer, INT# (R27, R143, R144, R155). -/

namespace Sys2Proof.Linkage

open Sys2Proof.Machine Sys2Proof.Safety

/-- States with the same blocks are the same. -/
theorem state_ext {s t : State} (pending : s.pending = t.pending) (inReset : s.inReset = t.inReset)
    (cfg : s.cfg = t.cfg) (sctl : s.sctl = t.sctl) (host : s.host = t.host) (link : s.link = t.link)
    (calls : s.calls = t.calls) (sess : s.sess = t.sess) (intake : s.intake = t.intake) (board : s.board = t.board)
    (hold : s.hold = t.hold) (doze : s.doze = t.doze) (events : s.events = t.events) : s = t := by
  cases s
  cases t
  simp only at *
  subst_vars
  rfl

/-! ## What a selection leaves -/

/-- What a selection leaves of the blocks that it touches besides the calls. -/
structure Selected (s t : State) : Prop where
  link : t.link = { s.link with act := t.link.act, bus := t.link.bus, line := t.link.line }
  sess : t.sess = { s.sess with gate := t.sess.gate }
  events : t.events = { s.events with sticky := t.events.sticky, edgeRaised := t.events.edgeRaised }

section
variable {s t u : State}

theorem Selected.refl (s : State) : Selected s s := ⟨rfl, rfl, rfl⟩
theorem Selected.trans (h : Selected s t) (g : Selected t u) : Selected s u :=
  ⟨by rw [g.link, h.link], by rw [g.sess, h.sess], by rw [g.events, h.events]⟩

theorem selected_raiseIf (b : Bool) (e : Event) (s : State) : Selected s (raiseIf b e s) := by
  cases b <;> exact ⟨rfl, rfl, rfl⟩

/-- Only a push raises an event while a call's outcome is decided (R60, R72). -/
theorem closeCall_events (n : SlotId) {o : CallOutcome} (i : BitVec 5) (s : State) (acked : o ≠ .acked) :
    (closeCall n o i s).events = s.events := by
  have session (x : Slot) (t : State) : (closeSession n x o i t).events = t.events := by
    unfold closeSession
    dsimp only
    rw [if_neg (c := x.kind = Config.kindClaim ∧ o = .acked) fun push => acked push.2]
    repeat' split
    all_goals simp
  simp only [closeCall, closePointer_frame, appendRecord_frame, session, closeTag_frame, closeSlot_frame]

theorem selected_closeCall (n : SlotId) {o : CallOutcome} (i : BitVec 5) (s : State) (acked : o ≠ .acked)
    (refused : o ≠ .refused) : Selected s (closeCall n o i s) := by
  have stack : (closeCall n o i s).sess.stack = s.sess.stack := by simp [closeCall_stack, acked, refused]
  refine ⟨by rw [(closeCall_frame s n o i).2.2.2.2.2.1], ?_, by rw [closeCall_events n i s acked]⟩
  rw [(closeCall_spec s n o i).2, stack]

theorem selected_closeChain (fuel : Nat) (n : SlotId) {o : CallOutcome} (i : BitVec 5) (s : State) (acked : o ≠ .acked)
    (refused : o ≠ .refused) : Selected s (closeChain fuel n o i s) := by
  induction fuel generalizing n o i s with
  | zero => exact .refl s
  | succ fuel ih =>
    have closed := selected_closeCall n i s acked refused
    unfold closeChain
    dsimp only
    repeat' split
    · exact closed.trans (ih _ _ _ nofun nofun)
    · exact closed
    · exact closed

theorem selected_failStart {n : SlotId} {o : CallOutcome} (check : s.startCheck n = some o) :
    Selected s (failStart n o s) := by
  obtain ⟨acked, refused⟩ := startCheck_outcome check
  exact (selected_closeChain _ n 0 s acked refused).trans (selected_raiseIf _ _ _)

theorem selected_beginContention (o : Owner) (p : Parcel) (s : State) : Selected s (beginContention o p s) := by
  unfold beginContention leadBegins startLow
  split <;> exact ⟨rfl, rfl, rfl⟩
theorem selected_startCall (n : SlotId) (s : State) : Selected s (startCall n s) :=
  Selected.trans (t := { s with
    calls := { (updSlot n (fun x => { x with state := .active }) s).calls with current := some n }
    sess := { s.sess with gate :=
      if s.calls.slots[n].kind = Config.kindClaim ∨ s.calls.slots[n].kind = Config.kindRelease then some n
      else s.sess.gate } }) ⟨rfl, rfl, rfl⟩ (selected_beginContention _ _ _)

theorem selected_selectLoop (fuel : Nat) (s : State) : Selected s (selectLoop fuel s) := by
  induction fuel generalizing s with
  | zero => exact .refl s
  | succ fuel ih =>
    unfold selectLoop
    split
    · exact selected_beginContention _ _ s
    · split
      · exact .refl s
      · split
        · exact (selected_failStart ‹_›).trans (ih _)
        · exact selected_startCall _ s

theorem selected_select (s : State) : Selected s (select s) := by
  unfold select
  split
  · exact selected_selectLoop _ s
  · exact .refl s

end

section
variable (s : State)

/-- A pending doze without HOLD requests leaves nothing to select: no call is eligible (R50, condition 4). -/
theorem select_pending (pending : s.doze.state = .pending) (hold : s.holdPending = false) : select s = s := by
  have noHold : s.holdCandidate = none := by
    simp only [State.holdPending, Bool.or_eq_false_iff, decide_eq_false_iff_not, not_not, ne_eq] at hold
    obtain ⟨⟨asserts, releases⟩, manual⟩ := hold
    exact StrandBus.holdCandidate_none s asserts releases (by simpa using manual)
  have nobody (n : SlotId) : s.eligible n = false := by simp [State.eligible, pending]
  have noCall : s.callCandidate = none := by
    rw [Option.eq_none_iff_forall_ne_some]
    intro n first
    obtain ⟨-, able⟩ | ⟨-, c, ⟨-, able⟩, -⟩ := (StrandBus.callCandidate_iff s n).mp first <;> simp [nobody] at able
  unfold select
  split
  · exact StrandBus.selectLoop_none _ noHold noCall
  · rfl

/-! ## The parts of an event's end -/

theorem holdPending_false_iff :
    s.holdPending = false ↔ s.hold.pendAssert = 0 ∧ s.hold.pendRelease = 0 ∧ s.hold.manual = none := by
  simp [State.holdPending, and_assoc]

theorem idleConditions_iff : s.idleConditions = true ↔
    s.cfg.dozecfg.auto = true ∧ s.doze.state = .awake ∧ s.link.act = .idle ∧
      (∀ n : SlotId, s.calls.slots[n].state ≠ .queued ∧ s.calls.slots[n].state ≠ .active) ∧
      s.hold.pendAssert = 0 ∧ s.hold.pendRelease = 0 ∧ s.hold.manual = none := by
  have closed : s.calls.slots.toList.all (fun x => !x.open) = true ↔
      ∀ n : SlotId, s.calls.slots[n].state ≠ .queued ∧ s.calls.slots[n].state ≠ .active := by
    simp [Slot.open, Fin.forall_iff]
  simp only [State.idleConditions, Bool.and_eq_true, Bool.not_eq_true', closed, holdPending_false_iff,
    decide_eq_true_eq, and_assoc]

theorem enterDoze_entered (pending : s.doze.state = .pending) (idle : s.link.act = .idle)
    (hold : s.holdPending = false) : enterDoze s =
      raise .dozeEntered { s with doze := { state := .dozing, idle := none, causes := 0, filter := 0 } } :=
  if_pos ⟨pending, idle, hold⟩
theorem enterDoze_other (other : ¬ (s.doze.state = .pending ∧ s.link.act = .idle ∧ s.holdPending = false)) :
    enterDoze s = s := if_neg other

/-- The doze idle timer and INT# change nothing else. -/
theorem updateInt_updateIdle_eq : updateInt (updateIdle s) = { s with
    doze := { s.doze with idle := (updateInt (updateIdle s)).doze.idle }
    events := { s.events with intLow := (updateInt (updateIdle s)).events.intLow } } := rfl
theorem updateInt_updateIdle_idleConditions : (updateInt (updateIdle s)).idleConditions = s.idleConditions := rfl
theorem updateInt_updateIdle_idle : (updateInt (updateIdle s)).doze.idle =
    if s.idleConditions then s.doze.idle <|> Timer.start s.div (s.cfg.dozecfg.dozeIdle.toNat * 1000) else none := rfl

/-- The state of an event's end but for its doze idle timer and INT#. -/
theorem endEvent_eq : endEvent s = { enterDoze (select s) with
    doze := { (enterDoze (select s)).doze with idle := (endEvent s).doze.idle }
    events := { (enterDoze (select s)).events with intLow := (endEvent s).events.intLow } } :=
  updateInt_updateIdle_eq _

theorem endEvent_idleConditions : (endEvent s).idleConditions = (enterDoze (select s)).idleConditions :=
  updateInt_updateIdle_idleConditions _

theorem endEvent_idle : (endEvent s).doze.idle =
    if (endEvent s).idleConditions then
      (enterDoze (select s)).doze.idle <|> Timer.start s.div (s.cfg.dozecfg.dozeIdle.toNat * 1000)
    else none := by
  have cfg : (enterDoze (select s)).cfg = s.cfg := by simp
  rw [State.div, ← cfg, endEvent_idleConditions]
  exact updateInt_updateIdle_idle _

/-- The end of an event changes the calls, and of other blocks what the statement names (R27). -/
theorem endEvent_shape : endEvent s = { s with
    link := { s.link with
      act := (endEvent s).link.act, bus := (endEvent s).link.bus, line := (endEvent s).link.line }
    calls := (endEvent s).calls
    sess := { s.sess with gate := (endEvent s).sess.gate }
    doze := (endEvent s).doze
    events := { s.events with
      sticky := (endEvent s).events.sticky, edgeRaised := (endEvent s).events.edgeRaised
      intLow := (endEvent s).events.intLow } } := by
  have selected := selected_select s
  have sameSess : (endEvent s).sess = (select s).sess := by simp [endEvent]
  have sess := sameSess.trans selected.sess
  have events : (endEvent s).events = { (select s).events with
      sticky := (endEvent s).events.sticky, edgeRaised := (endEvent s).events.edgeRaised
      intLow := (endEvent s).events.intLow } := by
    rw [endEvent_eq]
    unfold enterDoze
    split <;> rfl
  have frame := endEvent_frame s
  have link := (endEvent_link s).trans selected.link
  rw [← endEvent_link] at link
  rw [← sameSess] at sess
  rw [selected.events] at events
  obtain ⟨pending, inReset, cfg, sctl, host, intake, board, hold⟩ := frame
  exact state_ext pending inReset cfg sctl host link rfl sess intake board hold rfl events

end

/-- Settles O35, part by part. -/
theorem endOfEvent : Obligations.EndOfEvent := by
  intro s t noHold idles
  have conditions : idles ↔ t.idleConditions = true := (idleConditions_iff t).symm
  have frame := select_frame s
  refine ⟨endEvent_shape s, ?_, fun runs => ?_, fun stops => ?_, ?_, ?_, ?_, ?_, fun nothing => ?_⟩
  · rw [endEvent_intLow]
    simp [State.interrupt, State.evst, t]
  · have awake : (enterDoze (select s)).doze = s.doze := by
      have notDozing : t.doze.state = .awake := runs.2.1
      unfold enterDoze
      split
      · rename_i enters
        rw [show t.doze.state = (enterDoze (select s)).doze.state from rfl, enterDoze, if_pos enters] at notDozing
        simp at notDozing
      · simp
    rw [show t.doze.idle = _ from endEvent_idle s, if_pos (conditions.mp runs), awake]
    cases s.doze.idle <;> rfl
  · rw [show t.doze.idle = _ from endEvent_idle s, if_neg (mt conditions.mpr stops)]
  · exact endEvent_link s
  · simp [t, endEvent]
  · simp [t, endEvent]
  · split
    · rename_i enters
      obtain ⟨pending, idle, hold⟩ := enters
      change s.hold.pendAssert = 0 ∧ s.hold.pendRelease = 0 ∧ s.hold.manual = none at hold
      have entered := enterDoze_entered (select s) (by simpa using pending) idle
        ((holdPending_false_iff _).mpr (by simpa using hold))
      have dozes : t = _ := endEvent_eq s
      have stops : t.doze.idle = none := by
        rw [show t.doze.idle = _ from endEvent_idle s, if_neg]
        rw [endEvent_idleConditions, entered, idleConditions_iff]
        rintro ⟨-, awake, -⟩
        simp at awake
      rw [entered] at dozes
      exact ⟨by rw [dozes, ← stops]; rfl, by rw [dozes]; rfl⟩
    · rename_i stays
      have same := enterDoze_other (select s) fun ⟨pending, idle, hold⟩ =>
        stays ⟨by simpa using pending, idle, by simpa [noHold] using (holdPending_false_iff _).mp hold⟩
      have waits : t = _ := endEvent_eq s
      rw [same] at waits
      exact ⟨by rw [waits]; simp, by rw [waits]⟩
  · obtain act | bus | dozing | ⟨pending, hold⟩ := nothing
    · exact select_idle s (.inl act)
    · exact select_idle s (.inr (.inl bus))
    · exact select_idle s (.inr (.inr dozing))
    · exact select_pending s pending ((holdPending_false_iff s).mpr hold)

end Sys2Proof.Linkage
end

section
/-! Configuration writes are taken in full or refused in full (R24, R85, R97, R101, R122, R130, R141). -/

namespace Sys2Proof.Linkage

open Sys2Proof.Machine Sys2Proof.Safety

section
variable (w : Word) (s : State)

/-- A change of REPEAT_EN empties the repeat records (R85). -/
theorem writeIdent_eq : writeIdent w s =
    let i : Ident := ⟨w.extractLsb' 0 5, w.extractLsb' 8 5, w.getLsbD 16, w.getLsbD 17, w.extractLsb' 24 8⟩
    if s.linkEn = true ∨ (i.primary ≠ 0 ∧ i.aliasId = i.primary) ∨ i.primary = 31 ∨ i.aliasId = 31 then
      raise .configRefused s
    else { s with
      cfg := { s.cfg with ident := i }
      intake := { s.intake with
        repeats := if i.repeatEn = s.cfg.ident.repeatEn then s.intake.repeats else Vector.replicate _ none } } := by
  unfold writeIdent Ident.ofWord
  dsimp only
  split
  · rfl
  · split <;> rfl

theorem writeTickdiv_eq : writeTickdiv w s =
    if s.linkEn = true ∨ (w.extractLsb' 0 10).toNat < 7 then raise .configRefused s
    else { s with cfg := { s.cfg with tickdiv := w.extractLsb' 0 10 } } := rfl

/-- No quota falls below the occupancy of its inbox (R101). -/
theorem writeQuota_eq : writeQuota w s =
    if s.sctl.intakeEn = false ∧
        (w.extractLsb' 0 8).toNat + (w.extractLsb' 8 8).toNat + (w.extractLsb' 16 8).toNat +
          (w.extractLsb' 24 8).toNat ≤ 40 ∧
        (∀ n : Fin 4, s.intake.inboxes[n].length ≤ (w.extractLsb' (8 * n.val) 8).toNat) then
      { s with cfg := { s.cfg with quota := #v[w.extractLsb' 0 8, w.extractLsb' 8 8, w.extractLsb' 16 8,
        w.extractLsb' 24 8] } }
    else raise .configRefused s := by
  have fit : (List.finRange 4).all (fun n => s.occupancy n ≤ (inboxByte w n).toNat) = true ↔
      ∀ n : Fin 4, s.intake.inboxes[n].length ≤ (w.extractLsb' (8 * n.val) 8).toNat := by
    simp only [List.all_eq_true, List.mem_finRange, forall_true_left, decide_eq_true_eq]
    rfl
  simp only [writeQuota, fit, Bool.not_eq_true']
  rfl

/-- DEF_ACTION 3 is no action (R97). -/
theorem writeRoutecfg_eq : writeRoutecfg w s =
    if w.extractLsb' 0 2 = 3#2 then raise .configRefused s
    else { s with cfg := { s.cfg with routecfg := {
      action := if w.extractLsb' 0 2 = 0#2 then .deliver else if w.extractLsb' 0 2 = 1#2 then .discard else .refuse
      inbox := (w.extractLsb' 4 2).toFin } } } := by
  have code (c : BitVec 2) : RouteAction.ofCode c = if c = 3#2 then none else
      some (if c = 0#2 then .deliver else if c = 1#2 then .discard else .refuse) := by
    revert c
    decide
  unfold writeRoutecfg
  rw [code]
  split
  · rename_i none
    split at none
    · rw [if_pos ‹_›]; rfl
    · cases none
  · rename_i a some
    split at some
    · cases some
    · rw [if_neg ‹_›, ← Option.some.inj some]; rfl

theorem writeDozecfg_eq : writeDozecfg w s =
    if w.extractLsb' 8 8 = 0#8 then raise .configRefused s
    else { s with cfg := { s.cfg with dozecfg := {
      auto := w.getLsbD 0, answerInDoze := w.getLsbD 1, rouseWake := w.getLsbD 2, submitWake := w.getLsbD 3,
      dozeIdle := w.extractLsb' 8 8 } } } := rfl

/-- The inbox is evaluated by the marks written, while OUT_EN is 1 (R122). -/
theorem writeHmark_eq (n : Fin 4) : writeHmark n w s =
    let high : BitVec 6 := w.extractLsb' 0 6
    let low : BitVec 6 := w.extractLsb' 8 6
    let written : State := { s with cfg := { s.cfg with
      hmark := s.cfg.hmark.set n { high := high, low := low, classes := w.extractLsb' 16 4 } } }
    if high = 0 ∨ 40 < high.toNat ∨ low = 0 ∨ 40 < low.toNat then raise .configRefused s
    else if s.cfg.holdcfg.outEn then evalInbox n written else written := by
  unfold writeHmark HMark.ofWord
  dsimp only
  split
  · rfl
  · cases on : s.cfg.holdcfg.outEn with
    | true => rfl
    | false => exact if_neg (by simp [on])

end

/-- Settles O11, register by register. -/
theorem configurationTakenOrRefused : Obligations.ConfigurationTakenOrRefused := by
  intro n w now s high found
  rw [exec_identWrite now high, exec_linkcfgWrite now high, exec_tickdivWrite now high, exec_quotaWrite now high,
    exec_routecfgWrite now high, exec_dozecfgWrite now high, exec_hmarkWrite now high, ← found]
  rw [writeIdent_eq, writeTickdiv_eq, writeQuota_eq, writeRoutecfg_eq, writeDozecfg_eq, writeHmark_eq]
  exact ⟨rfl, rfl, rfl, rfl, rfl, rfl, rfl⟩

end Sys2Proof.Linkage
end

section
/-! Words as fields: the numbers that stand in the bits of a register (sections 12.6 and 12.7). -/

namespace Sys2Proof.Linkage

open Sys2Proof.Machine Sys2Proof.Safety

/-! ## Fields -/

/-- The number `v` in the `w` bits from bit `lo` on. -/
def field (lo w v : Nat) : Word := (BitVec.ofNat w v).setWidth 32 <<< lo
/-- A flag in bit `lo`. -/
def flag (lo : Nat) (b : Bool) : Word := field lo 1 b.toNat
/-- A part of a word, put in its place from bit `lo` on. -/
def placed {w : Nat} (lo : Nat) (x : BitVec w) : Word := x.setWidth 32 <<< lo

theorem placed_word (x : Word) : placed 0 x = x := by simp [placed]

/-- A part that is itself put together is its two parts in their places. -/
@[simp] theorem placed_append {a b : Nat} (lo : Nat) (x : BitVec a) (y : BitVec b) :
    placed lo (x ++ y) = placed (lo + b) x ||| placed lo y := by
  refine BitVec.eq_of_getLsbD_eq fun i lt => ?_
  simp only [placed, BitVec.getLsbD_or, BitVec.getLsbD_shiftLeft, BitVec.getLsbD_setWidth, BitVec.getLsbD_append,
    lt, decide_true, Bool.true_and]
  by_cases below : i < lo
  · simp [below, Nat.lt_add_right b below]
  · have inside : i - lo < 32 := by omega
    by_cases low : i - lo < b
    · have first : i < lo + b := by omega
      simp [below, inside, low, first]
    · have second : ¬ i < lo + b := by omega
      have place : i - (lo + b) < 32 := by omega
      have outside : y.getLsbD (i - lo) = false := BitVec.getLsbD_of_ge y _ (by omega)
      simp [below, inside, low, second, place, outside, Nat.sub_sub]

@[simp] theorem placed_zero (lo w : Nat) : placed lo (0#w) = 0#32 := by simp [placed]
@[simp] theorem field_zero (lo w : Nat) : field lo w 0 = 0#32 := by simp [field]
@[simp] theorem placed_ofNat (lo w v : Nat) : placed lo (BitVec.ofNat w v) = field lo w v := rfl
@[simp] theorem placed_ofFin {w : Nat} (lo : Nat) (n : Fin (2 ^ w)) : placed lo (BitVec.ofFin n) = field lo w n.val := by
  rw [field, placed]
  congr 2
  exact BitVec.eq_of_toNat_eq (by simp)
@[simp] theorem field_toNat {w : Nat} (lo : Nat) (x : BitVec w) : field lo w x.toNat = placed lo x := by
  rw [field, BitVec.ofNat_toNat, BitVec.setWidth_eq, placed]
@[simp] theorem placed_bit (lo : Nat) (b : Bool) : placed lo (BitVec.ofBool b) = flag lo b := by cases b <;> rfl

theorem placed_ite {w : Nat} (lo : Nat) (c : Prop) [Decidable c] (x y : BitVec w) :
    placed lo (if c then x else y) = if c then placed lo x else placed lo y := apply_ite ..
theorem field_ite (lo w : Nat) (c : Prop) [Decidable c] (m n : Nat) :
    field lo w (if c then m else n) = if c then field lo w m else field lo w n := apply_ite ..

theorem or_left_comm (x y z : Word) : x ||| (y ||| z) = y ||| (x ||| z) := by
  rw [← BitVec.or_assoc, BitVec.or_comm x y, BitVec.or_assoc]

/-- A word put together from its parts has them in their places. -/
theorem word_of_parts {a b : Nat} {x : BitVec a} {y : BitVec b} {v : Word} (parts : placed b x ||| placed 0 y = v) :
    placed 0 (x ++ y) = v := by
  rw [placed_append, Nat.zero_add, parts]
theorem word_eq {x v : Word} (parts : placed 0 x = v) : x = v := (placed_word x).symm.trans parts

/-! ## Reading a field back -/

section
variable {lo w lo' w' : Nat}

theorem field_getLsbD (lo w v i : Nat) (lt : i < 32) :
    (field lo w v).getLsbD i = (decide (lo ≤ i) && (BitVec.ofNat w v).getLsbD (i - lo)) := by
  have inside : i - lo < 32 := by omega
  simp only [field, BitVec.getLsbD_shiftLeft, BitVec.getLsbD_setWidth, lt, inside, decide_true, Bool.true_and]
  by_cases low : i < lo
  · simp [low, Nat.not_le.mpr low]
  · simp [low, Nat.not_lt.mp low]

@[simp] theorem extract_field (fits : lo + w ≤ 32) (v : Nat) : (field lo w v).extractLsb' lo w = BitVec.ofNat w v := by
  refine BitVec.eq_of_getLsbD_eq fun i lt => ?_
  have inWord : lo + i < 32 := by omega
  rw [BitVec.getLsbD_extractLsb', field_getLsbD _ _ _ _ inWord]
  simp [lt]
@[simp] theorem extract_field_apart {v : Nat} (fits : lo + w ≤ 32) (apart : lo + w ≤ lo' ∨ lo' + w' ≤ lo) :
    (field lo' w' v).extractLsb' lo w = 0#w := by
  refine BitVec.eq_of_getLsbD_eq fun i lt => ?_
  have inWord : lo + i < 32 := by omega
  rw [BitVec.getLsbD_extractLsb', field_getLsbD _ _ _ _ inWord]
  obtain above | below := apart
  · simp [lt, Nat.not_le.mpr (show lo + i < lo' by omega)]
  · simp [BitVec.getLsbD_of_ge (BitVec.ofNat w' v) (lo + i - lo') (by omega)]
@[simp] theorem field_getElem_apart {v i : Nat} (lt : i < 32) (apart : i < lo ∨ lo + w ≤ i) :
    (field lo w v)[i] = false := by
  rw [← BitVec.getLsbD_eq_getElem, field_getLsbD _ _ _ _ lt]
  obtain above | below := apart
  · simp [Nat.not_le.mpr above]
  · simp [BitVec.getLsbD_of_ge (BitVec.ofNat w v) (i - lo) (by omega)]

@[simp] theorem extract_placed (fits : lo + w ≤ 32) (x : BitVec w) : (placed lo x).extractLsb' lo w = x := by
  rw [← field_toNat, extract_field fits, BitVec.ofNat_toNat, BitVec.setWidth_eq]
@[simp] theorem extract_placed_apart {x : BitVec w'} (fits : lo + w ≤ 32) (apart : lo + w ≤ lo' ∨ lo' + w' ≤ lo) :
    (placed lo' x).extractLsb' lo w = 0#w := by
  rw [← field_toNat, extract_field_apart fits apart]
@[simp] theorem placed_getElem_apart {x : BitVec w} {i : Nat} (lt : i < 32) (apart : i < lo ∨ lo + w ≤ i) :
    (placed lo x)[i] = false := by
  simp only [← field_toNat, field_getElem_apart lt apart]

@[simp] theorem extract_flag_apart {b : Bool} (fits : lo + w ≤ 32) (apart : lo + w ≤ lo' ∨ lo' + 1 ≤ lo) :
    (flag lo' b).extractLsb' lo w = 0#w := extract_field_apart fits apart
@[simp] theorem flag_getElem {b : Bool} (lt : lo < 32) : (flag lo b)[lo] = b := by
  rw [← BitVec.getLsbD_eq_getElem, flag, field_getLsbD _ _ _ _ lt]
  cases b <;> simp
@[simp] theorem flag_getElem_apart {b : Bool} {i : Nat} (lt : i < 32) (apart : i < lo ∨ lo + 1 ≤ i) :
    (flag lo b)[i] = false := field_getElem_apart lt apart

end

end Sys2Proof.Linkage
end

section
/-! The registers as their layouts show them (sections 12.5 to 12.7). -/

namespace Sys2Proof.Linkage

open Sys2Proof.Machine Sys2Proof.Safety

/-! ## Codes. Each is the place of its value in the order of its table. -/

@[simp] theorem placed_actionCode (lo : Nat) (a : RouteAction) :
    placed lo a.code = field lo 2 ([RouteAction.deliver, .discard, .refuse].idxOf a) := by cases a <;> rfl
@[simp] theorem placed_dozeCode (lo : Nat) (d : DozeState) :
    placed lo d.code = field lo 2 ([DozeState.awake, .pending, .dozing].idxOf d) := by cases d <;> rfl
@[simp] theorem placed_resultCode (lo : Nat) (r : CmdResult) : placed lo r.code = field lo 3 ([CmdResult.ok, .badCode,
    .badArgument, .wrongState, .noResource, .empty, .disabled].idxOf r) := by cases r <;> rfl
@[simp] theorem placed_slotCode (lo : Nat) (x : SlotState) :
    placed lo x.code = field lo 3 ([SlotState.free, .queued, .active, .done, .harvested].idxOf x) := by cases x <;> rfl
@[simp] theorem placed_hitCode (lo : Nat) (h : IdHit) :
    placed lo h.code = field lo 2 ([IdHit.primary, .aliasHit, .broadcast].idxOf h) := by cases h <;> rfl
@[simp] theorem placed_causeCode (lo : Nat) (c : EndCause) :
    placed lo c.code = field lo 2 ([EndCause.none, .released, .expired, .broken].idxOf c) := by cases c <;> rfl

/-- The outcomes in the order of R60. -/
def outcomes : List CallOutcome := [.acked, .sent, .refused, .deferred, .noAnswer, .answerFault, .linkFault, .starved,
  .cancelled, .chainBroken, .orderFault, .stackFull, .duplicateClaim, .badIdentity, .flushed]
@[simp] theorem placed_outcomeCode (lo : Nat) (o : CallOutcome) : placed lo o.code = field lo 4 (outcomes.idxOf o) := by
  cases o <;> rfl

/-! ## Configuration registers and table entries -/

theorem ident_word (i : Ident) : i.word = field 0 5 i.primary.toNat ||| field 8 5 i.aliasId.toNat |||
    flag 16 i.claimEn ||| flag 17 i.repeatEn ||| field 24 8 i.lease.toNat :=
  word_eq (word_of_parts (by simp [↓placed_append, BitVec.or_comm, BitVec.or_assoc, or_left_comm]))
theorem linkcfg_word (c : LinkCfg) : c.word = field 0 2 c.rate.toNat ||| field 4 4 c.faultLimit.toNat |||
    field 8 8 c.stuckLimit.toNat ||| field 16 8 c.retryDelay.toNat :=
  word_eq (word_of_parts (by simp [↓placed_append, BitVec.or_comm, BitVec.or_assoc]))
theorem holdcfg_word (c : HoldCfg) : c.word = flag 0 c.inEn ||| flag 1 c.outEn ||| flag 2 c.noRelease |||
    field 16 16 c.holdTime.toNat :=
  word_eq (word_of_parts (by simp [↓placed_append, BitVec.or_comm, BitVec.or_assoc]))
theorem tickdiv_word (d : BitVec 10) : 0#22 ++ d = field 0 10 d.toNat :=
  word_eq (word_of_parts (by simp))
/-- A word that shows 16 bits: HOLDMRG, CNTn, an arrival number. -/
theorem half_word (x : BitVec 16) : 0#16 ++ x = field 0 16 x.toNat :=
  word_eq (word_of_parts (by simp))
theorem hmark_word (m : HMark) (b : Bool) : m.word b = field 0 6 m.high.toNat ||| field 8 6 m.low.toNat |||
    field 16 4 m.classes.toNat ||| flag 31 b :=
  word_eq (word_of_parts (by simp [↓placed_append, BitVec.or_comm, BitVec.or_assoc, or_left_comm]))
theorem routecfg_word (c : RouteCfg) : c.word =
    field 0 2 ([RouteAction.deliver, .discard, .refuse].idxOf c.action) ||| field 4 2 c.inbox.val :=
  word_eq (word_of_parts (by simp [↓placed_append, BitVec.or_comm]))
theorem dozecfg_word (c : DozeCfg) : c.word = flag 0 c.auto ||| flag 1 c.answerInDoze ||| flag 2 c.rouseWake |||
    flag 3 c.submitWake ||| field 8 8 c.dozeIdle.toNat :=
  word_eq (word_of_parts (by simp [↓placed_append, BitVec.or_comm, BitVec.or_assoc]))
theorem route_word (r : Route) : r.word = field 0 5 r.source.toNat ||| field 8 3 r.idset.toNat |||
    field 12 4 r.classes.toNat ||| field 16 2 r.inbox.val |||
    field 20 2 ([RouteAction.deliver, .discard, .refuse].idxOf r.action) ||| flag 31 r.valid :=
  word_eq (word_of_parts (by simp [↓placed_append, BitVec.or_comm, BitVec.or_assoc, or_left_comm]))
theorem filter_word (f : WakeFilter) : f.word = field 0 5 f.source.toNat ||| field 8 8 f.pattern.toNat |||
    field 16 8 f.mask.toNat ||| field 24 3 f.idset.toNat ||| flag 31 f.valid :=
  word_eq (word_of_parts (by simp [↓placed_append, BitVec.or_comm, BitVec.or_assoc, or_left_comm]))
theorem inboxWord_eq (f : Fin 4 → Byte) : inboxWord f = field 0 8 (f 0).toNat ||| field 8 8 (f 1).toNat |||
    field 16 8 (f 2).toNat ||| field 24 8 (f 3).toNat :=
  word_eq (word_of_parts (by simp [↓placed_append, BitVec.or_comm, BitVec.or_assoc]))

theorem slotsel_word (n : BitVec 5) : 0#27 ++ n = field 0 5 n.toNat :=
  word_eq (word_of_parts (by simp))
theorem ibsel_word (n : BitVec 2) : 0#30 ++ n = field 0 2 n.toNat :=
  word_eq (word_of_parts (by simp))
theorem tblsel_word (h : HostRegs) : 0#14 ++ h.tblTable ++ 0#8 ++ h.tblIndex =
    field 0 8 h.tblIndex.toNat ||| field 16 2 h.tblTable.toNat :=
  word_eq (word_of_parts (by simp [↓placed_append, BitVec.or_comm]))

/-! ## Round trips -/

theorem ident_ofWord_word (i : Ident) : Ident.ofWord i.word = i := by
  rw [ident_word]
  simp [Ident.ofWord, BitVec.extractLsb'_or]
theorem linkcfg_ofWord_word (c : LinkCfg) : LinkCfg.ofWord c.word = c := by
  rw [linkcfg_word]
  simp [LinkCfg.ofWord, BitVec.extractLsb'_or]
theorem holdcfg_ofWord_word (c : HoldCfg) : HoldCfg.ofWord c.refreshMargin c.word = c := by
  rw [holdcfg_word]
  simp [HoldCfg.ofWord, BitVec.extractLsb'_or]
theorem dozecfg_ofWord_word (c : DozeCfg) : DozeCfg.ofWord c.word = c := by
  rw [dozecfg_word]
  simp [DozeCfg.ofWord, BitVec.extractLsb'_or]
theorem hmark_ofWord_word (m : HMark) (b : Bool) : HMark.ofWord (m.word b) = m := by
  rw [hmark_word]
  simp [HMark.ofWord, BitVec.extractLsb'_or]
/-- Of the sources only 31 is refused; every action has a code (R99). -/
theorem route_ofWord_word (r : Route) (source : r.source ≠ 31) : Route.ofWord r.word = some r := by
  have action (a : RouteAction) : RouteAction.ofCode (BitVec.ofNat 2 ([RouteAction.deliver, .discard, .refuse].idxOf a)) =
      some a := by cases a <;> rfl
  have inbox (n : Fin 4) : toClass (BitVec.ofFin n) = n := rfl
  have legal : ¬ r.source = 31#5 := source
  rw [route_word]
  simp [Route.ofWord, BitVec.extractLsb'_or, action, inbox, legal]
theorem filter_ofWord_word (f : WakeFilter) (source : f.source ≠ 31) : WakeFilter.ofWord f.word = some f := by
  have legal : ¬ f.source = 31#5 := source
  rw [filter_word]
  simp [WakeFilter.ofWord, BitVec.extractLsb'_or, legal]

/-! ## Views -/

/-- The word of four bytes of a payload, from byte 4 k on (R44). -/
def fourBytes (bs : List Byte) (k : Nat) : Word := field 24 8 (bs.getD (4 * k) 0).toNat |||
  field 16 8 (bs.getD (4 * k + 1) 0).toNat ||| field 8 8 (bs.getD (4 * k + 2) 0).toNat |||
  field 0 8 (bs.getD (4 * k + 3) 0).toNat
theorem bytesWord_eq (bs : List Byte) (k : Nat) : bytesWord bs k = fourBytes bs k :=
  word_eq (word_of_parts (by simp [↓placed_append, fourBytes, BitVec.or_comm]))

theorem sctl_word (s : State) : s.sctlWord = flag 0 (decide (s.link.act ≠ .off)) ||| flag 1 s.sctl.intakeEn |||
    flag 4 s.sctl.irqEn ||| flag 5 s.sctl.rdclr :=
  word_eq (word_of_parts (by simp [↓placed_append, State.linkEn, BitVec.or_comm, BitVec.or_assoc]))

@[simp] theorem placed_heldSet (s : State) (lo : Nat) : placed lo s.heldSet = flag lo (s.held 0) |||
    flag (lo + 1) (s.held 1) ||| flag (lo + 2) (s.held 2) ||| flag (lo + 3) (s.held 3) := by
  have bits : s.heldSet = bit (s.held 3) ++ bit (s.held 2) ++ bit (s.held 1) ++ bit (s.held 0) := by
    refine BitVec.eq_of_getLsbD_eq fun i lt => ?_
    simp only [State.heldSet, BitVec.getLsbD_ofFnLE, BitVec.getLsbD_append, BitVec.getLsbD_ofBool]
    interval_cases i <;> rfl
  rw [bits]
  simp [↓placed_append, BitVec.or_comm, BitVec.or_assoc]

theorem slotsIn_eq (s : State) (x : SlotState) : s.slotsIn (fun y => y = x) =
    ((List.finRange Config.slotCount).filter fun n => s.calls.slots[n].state = x).length := by
  have slots : s.calls.slots.toList = (List.finRange Config.slotCount).map fun n => s.calls.slots[n] :=
    List.ext_getElem (by simp) fun i _ _ => by simp
  rw [State.slotsIn, slots, List.countP_map, List.countP_eq_length_filter]
  rfl

theorem sstat_word (s : State) : s.sstat = field 0 4 s.linkCode.toNat ||| flag 4 s.link.quarantine |||
    field 5 2 ([DozeState.awake, .pending, .dozing].idxOf s.doze.state) ||| flag 7 s.hold.manual.isSome |||
    field 8 5 ((List.finRange Config.slotCount).filter fun n => s.calls.slots[n].state = .free).length |||
    field 13 5 s.calls.cq.length ||| field 18 3 s.sess.stack.length ||| flag 21 s.sess.holder.isSome |||
    flag 24 s.hold.timers[0].isSome ||| flag 25 s.hold.timers[1].isSome ||| flag 26 s.hold.timers[2].isSome |||
    flag 27 s.hold.timers[3].isSome ||| field 28 4 s.hold.asserted.toNat := by
  rw [← slotsIn_eq]
  refine word_eq (word_of_parts ?_)
  simp [↓placed_append, State.held]
  grind

theorem cmdr_word (c : Cmdr) : c.word = field 0 16 c.value.toNat ||| field 16 3 ([CmdResult.ok, .badCode, .badArgument,
    .wrongState, .noResource, .empty, .disabled].idxOf c.result) ||| field 24 8 c.code.toNat :=
  word_eq (word_of_parts (by simp [↓placed_append, BitVec.or_comm, BitVec.or_assoc, or_left_comm]))
theorem linkstat_word (l : LinkEngine) : l.linkstat = field 0 4 l.lastFault.toNat ||| field 8 4 l.faults.toNat |||
    field 16 8 l.conflicts.toNat :=
  word_eq (word_of_parts (by simp [↓placed_append, BitVec.or_comm, BitVec.or_assoc]))

theorem slot_view0 (x : Slot) : x.view0 =
    field 0 3 ([SlotState.free, .queued, .active, .done, .harvested].idxOf x.state) ||| flag 3 x.cancelPending |||
    field 4 4 x.kind.toNat ||| field 8 2 x.cls.val ||| flag 10 x.idsel ||| flag 11 x.chain |||
    field 12 5 x.dest.toNat ||| field 17 6 x.len.toNat ||| field 24 8 x.losses :=
  word_eq (word_of_parts (by simp [↓placed_append, BitVec.or_comm, BitVec.or_assoc, or_left_comm]))
/-- The outcome shows in DONE and HARVESTED (R64). -/
theorem slot_view1 (x : Slot) : x.view1 =
    field 0 4 (if x.state = .done ∨ x.state = .harvested then (x.outcome.map outcomes.idxOf).getD 0 else 0) |||
    flag 4 (decide (x.state = .done ∨ x.state = .harvested)) ||| flag 5 x.tag.isSome ||| flag 6 x.reason.isSome |||
    field 8 4 x.attempts ||| field 12 4 (x.tag.getD 0).toNat ||| field 16 8 (x.reason.getD 0).toNat |||
    field 24 6 x.answer.length := by
  have decided : x.decided = decide (x.state = .done ∨ x.state = .harvested) := by simp [Slot.decided]
  have shown (o : Option CallOutcome) :
      placed 0 ((o.map CallOutcome.code).getD 0#4) = field 0 4 ((o.map outcomes.idxOf).getD 0) := by cases o <;> simp
  exact word_eq (word_of_parts (by simp [↓placed_append, shown, decided, placed_ite, field_ite, BitVec.or_comm, BitVec.or_assoc, or_left_comm]))

theorem completion_word0 (r : Completion) :
    r.sequence ++ BitVec.ofNat 4 r.attempts ++ r.outcome.code ++ 0#3 ++ BitVec.ofNat 5 r.slot.val ++ 0#7 ++ 1#1 =
      flag 0 true ||| field 8 5 r.slot.val ||| field 16 4 (outcomes.idxOf r.outcome) ||| field 20 4 r.attempts |||
        field 24 8 r.sequence.toNat :=
  word_eq (word_of_parts (by simp [↓placed_append, flag, BitVec.or_comm, BitVec.or_assoc]))
theorem completion_word1 (r : Completion) :
    0#2 ++ BitVec.ofNat 6 r.answerLen ++ r.reason.getD 0 ++ 0#7 ++ bit r.reason.isSome ++ BitVec.ofNat 8 r.losses =
      field 0 8 r.losses ||| flag 8 r.reason.isSome ||| field 16 8 (r.reason.getD 0).toNat ||| field 24 6 r.answerLen :=
  word_eq (word_of_parts (by simp [↓placed_append, BitVec.or_comm, BitVec.or_assoc, or_left_comm]))
theorem record_word0 (r : InRecord) :
    0#4 ++ r.tag ++ 0#2 ++ r.cls ++ 0#2 ++ r.hit.code ++ 0#3 ++ r.source ++ BitVec.ofNat 6 r.payload.length ++ 0#2 =
      field 2 6 r.payload.length ||| field 8 5 r.source.toNat |||
        field 16 2 ([IdHit.primary, .aliasHit, .broadcast].idxOf r.hit) ||| field 20 2 r.cls.toNat |||
        field 24 4 r.tag.toNat :=
  word_eq (word_of_parts (by simp [↓placed_append, BitVec.or_comm, BitVec.or_assoc, or_left_comm]))

theorem ibcount_word (s : State) : s.ibcount = field 0 8 s.intake.inboxes[0].length |||
    field 8 8 s.intake.inboxes[1].length ||| field 16 8 s.intake.inboxes[2].length |||
    field 24 8 s.intake.inboxes[3].length := by
  rw [State.ibcount, inboxWord_eq]
  simp only [field_toNat, placed_ofNat]
  rfl

/-- The time that is left in ms, rounded up; 0 where no timer runs (R76, R84). -/
def msLeft (t : Option Timer) : Nat := (t.map fun m => (m.us + 999) / 1000).getD 0

theorem session_word (e : SessEntry) : e.word = field 0 5 e.node.toNat ||| field 8 5 e.identity.toNat |||
    flag 15 e.lapsed ||| field 16 8 e.lease.toNat ||| field 24 8 (msLeft e.mirror) := by
  have time : (e.mirror.map Timer.ms).getD 0 = msLeft e.mirror := rfl
  exact word_eq (word_of_parts (by simp [↓placed_append, time, BitVec.or_comm, BitVec.or_assoc, or_left_comm]))
theorem sessview_zero (s : State) : s.sessview 0 = field 0 3 s.sess.stack.length ||| flag 8 s.sess.gate.isSome |||
    field 16 5 ((s.sess.gate.map Fin.val).getD 0) :=
  word_eq (word_of_parts (by simp [↓placed_append, BitVec.or_comm, BitVec.or_assoc]))
theorem claimview_word (u : SessionUnit) : u.claimview = field 0 5 (u.holder.getD 0).toNat |||
    flag 7 (u.holder.isSome && u.leaseTimer.isNone) ||| field 8 8 (msLeft u.leaseTimer) |||
    field 16 2 ([EndCause.none, .released, .expired, .broken].idxOf u.lastEnd) := by
  have time : (u.leaseTimer.map Timer.ms).getD 0 = msLeft u.leaseTimer := rfl
  exact word_eq (word_of_parts (by simp [↓placed_append, time, BitVec.or_comm, BitVec.or_assoc, or_left_comm]))
theorem holdview_word (s : State) (n : Fin 4) : s.holdview n = field 0 24 ((s.hold.timers[n].map Timer.us).getD 0) |||
    flag 28 (s.hold.pendAssert.getLsbD n) ||| flag 29 (s.hold.pendRelease.getLsbD n) :=
  word_eq (word_of_parts (by simp [↓placed_append, BitVec.or_comm, BitVec.or_assoc, or_left_comm]))
theorem dozestat_word (d : DozeUnit) : d.dozestat = field 0 4 d.causes.toNat |||
    field 8 2 (if d.causes.getLsbD 2 then d.filter.toNat else 0) :=
  word_eq (word_of_parts (by simp [↓placed_append, placed_ite, field_ite, BitVec.or_comm]))

/-! ## Views by their selection -/

section
variable {s : State}

theorem slotview_of_slot {n : SlotId} (selected : n.val = s.host.slotsel.toNat) (i : Fin 10) : s.slotview i =
    if i.val = 0 then s.calls.slots[n].view0 else if i.val = 1 then s.calls.slots[n].view1
    else bytesWord s.calls.slots[n].answer (i.val - 2) := by
  have inRange : s.host.slotsel.toNat < Config.slotCount := selected ▸ n.isLt
  obtain rfl : n = ⟨s.host.slotsel.toNat, inRange⟩ := Fin.ext selected
  exact dif_pos inRange
theorem slotview_of_ge (beyond : 24 ≤ s.host.slotsel.toNat) (i : Fin 10) : s.slotview i = 0 :=
  dif_neg (Nat.not_lt.mpr beyond)

theorem cqview_empty (empty : s.calls.cq = []) (i : Fin 2) : s.cqview i = 0 := by
  simp only [State.cqview, empty]
theorem cqview_record {r : Completion} {rest : List Completion} (head : s.calls.cq = r :: rest) :
    s.cqview 0 =
      r.sequence ++ BitVec.ofNat 4 r.attempts ++ r.outcome.code ++ 0#3 ++ BitVec.ofNat 5 r.slot.val ++ 0#7 ++ 1#1 ∧
    s.cqview 1 =
      0#2 ++ BitVec.ofNat 6 r.answerLen ++ r.reason.getD 0 ++ 0#7 ++ bit r.reason.isSome ++ BitVec.ofNat 8 r.losses := by
  simp only [State.cqview, head]
  exact ⟨rfl, rfl⟩

theorem ibview_empty {n : Fin 4} (selected : n.val = s.host.ibsel.toNat) (empty : s.intake.inboxes[n] = [])
    (i : Fin 10) : s.ibview i = if i.val = 0 then 1 else 0 := by
  obtain rfl : n = toClass s.host.ibsel := Fin.ext selected
  simp only [State.ibview, empty]
theorem ibview_record {n : Fin 4} (selected : n.val = s.host.ibsel.toNat) {r : InRecord} {rest : List InRecord}
    (head : s.intake.inboxes[n] = r :: rest) (i : Fin 10) : s.ibview i =
      if i.val = 0 then
        0#4 ++ r.tag ++ 0#2 ++ r.cls ++ 0#2 ++ r.hit.code ++ 0#3 ++ r.source ++ BitVec.ofNat 6 r.payload.length ++ 0#2
      else if i.val = 1 then 0#16 ++ r.arrival
      else bytesWord r.payload (i.val - 2) := by
  obtain rfl : n = toClass s.host.ibsel := Fin.ext selected
  simp only [State.ibview, head]

theorem sessview_above {k : Fin 7} (above : s.sess.stack.length < k.val) : s.sessview k = 0 := by
  have first : ¬ k.val = 0 := by omega
  have absent : ¬ (1 ≤ k.val ∧ k.val ≤ s.sess.stack.length) := by omega
  simp [State.sessview, State.sessEntry, first, absent]
/-- Entry k counts from the bottom of the stack (R76). -/
theorem sessview_entry {k : Fin 7} {e : SessEntry} (first : k ≠ 0) (within : k.val ≤ s.sess.stack.length)
    (entry : s.sess.stack[s.sess.stack.length - k.val]? = some e) : s.sessview k = e.word := by
  have positive : ¬ k.val = 0 := fun zero => first (Fin.ext zero)
  have present : 1 ≤ k.val ∧ k.val ≤ s.sess.stack.length := ⟨by omega, within⟩
  simp [State.sessview, State.sessEntry, State.entryAt, State.positionFromBottom, positive, present, entry]

theorem boardBits_getLsbD (f : BoardEntry → Bool) (b : Board) {i : Fin 2} {k : Fin 32} {n : Fin 64}
    (place : n.val = 32 * i.val + k.val) : (boardBits i f b).getLsbD k = f b[n] := by
  simp [boardBits, place]

end

/-- Settles O7, layout by layout. -/
theorem registerLayoutsRoundTrip : Obligations.RegisterLayoutsRoundTrip := by
  refine ⟨ident_ofWord_word, linkcfg_ofWord_word, holdcfg_ofWord_word, dozecfg_ofWord_word, hmark_ofWord_word,
    route_ofWord_word, filter_ofWord_word, fun s => ?_⟩
  intro field flag bytes ms outcome link
  have isField : field = Linkage.field := rfl
  have isFlag : flag = Linkage.flag := rfl
  have isBytes : bytes = fourBytes := rfl
  have isMs : ms = msLeft := rfl
  have isOutcome : outcome = outcomes.idxOf := rfl
  have isLink : link = s.linkCode.toNat := by
    simp only [link, State.linkCode]
    split
    · rfl
    · cases s.link.act <;> rfl
  clear_value link outcome ms bytes flag field
  subst isField isFlag isBytes isMs isOutcome isLink
  refine ⟨ident_word s.cfg.ident, linkcfg_word s.cfg.linkcfg, tickdiv_word s.cfg.tickdiv,
    inboxWord_eq fun n => s.cfg.quota[n], holdcfg_word s.cfg.holdcfg, half_word s.cfg.holdcfg.refreshMargin,
    fun n => hmark_word s.cfg.hmark[n] s.hold.holding[n], routecfg_word s.cfg.routecfg, dozecfg_word s.cfg.dozecfg,
    route_word, filter_word, sctl_word s, sstat_word s, cmdr_word s.host.cmdr, linkstat_word s.link,
    fun n selected => ⟨?_, ?_, fun i later => ?_⟩, slotview_of_ge, cqview_empty, fun r rest head => ⟨?_, ?_⟩,
    fun n selected => ⟨fun empty i => ?_, fun r rest head => ⟨?_, ?_, fun i later => ?_⟩⟩, ibcount_word s, sessview_zero s,
    fun k first => ⟨sessview_above, fun e within entry => ?_⟩, claimview_word s.sess, holdview_word s,
    dozestat_word s.doze, fun i => half_word s.events.counters[i], rfl, rfl, rfl, rfl, fun i => rfl,
    slotsel_word s.host.slotsel, ibsel_word s.host.ibsel, tblsel_word s.host, rfl, rfl, fun n => rfl,
    fun i k n place => ⟨?_, ?_, ?_, ?_⟩⟩
  · exact (slotview_of_slot selected 0).trans (slot_view0 _)
  · exact (slotview_of_slot selected 1).trans (slot_view1 _)
  · rw [← bytesWord_eq]
    exact (slotview_of_slot selected i).trans ((if_neg (by omega)).trans (if_neg (by omega)))
  · exact (cqview_record head).1.trans (completion_word0 r)
  · exact (cqview_record head).2.trans (completion_word1 r)
  · refine (ibview_empty selected empty i).trans ?_
    revert i
    decide
  · exact (ibview_record selected head 0).trans (record_word0 r)
  · exact (ibview_record selected head 1).trans (half_word r.arrival)
  · rw [← bytesWord_eq]
    exact (ibview_record selected head i).trans ((if_neg (by omega)).trans (if_neg (by omega)))
  · exact (sessview_entry first within entry).trans (session_word e)
  · exact boardBits_getLsbD _ _ place
  · exact boardBits_getLsbD _ _ place
  · exact boardBits_getLsbD _ _ place
  · exact boardBits_getLsbD _ _ place

end Sys2Proof.Linkage
end


section
/-! The moves of the Call Engine: what an event can do to slots, class queues, tags, records and the current call, said
once, with what the Call Engine sees of the link state (R29, R46 to R69). -/

namespace Sys2Proof.Calling

open Sys2Proof.Machine Sys2Proof.Safety

/-! ## The own call as the link state shows it -/

/-- The own call under way in this activity, if there is one: whether its contention has been won (R28, R29). -/
def phase : Activity → Option Bool
  | .contending .call _ => some false
  | .transmitting .call _ | .awaiting _ | .listening (some _) => some true
  | _ => none

theorem ownCall_eq (a : Activity) : ownCall a = (phase a).isSome := by
  cases a with
  | contending o _ => cases o <;> rfl
  | transmitting o _ => cases o <;> rfl
  | listening w => cases w <;> rfl
  | _ => rfl

theorem wonCall_iff (a : Activity) : wonCall a = true ↔ phase a = some true := by
  cases a with
  | contending o _ => cases o <;> simp [wonCall, phase]
  | transmitting o _ => cases o <;> simp [wonCall, phase]
  | listening w => cases w <;> simp [wonCall, phase]
  | _ => simp [wonCall, phase]

/-- The phase of the Call Engine in a state. -/
def callPhase (s : State) : Option Bool := phase s.link.act

/-! ## Slots -/

theorem getElem_set_fin {α : Type} {k : Nat} (v : Vector α k) (i j : Fin k) (x : α) :
    (v.set i x)[j] = if j = i then x else v[j] := by
  simp only [Fin.getElem_fin, Vector.getElem_set, Fin.ext_iff, eq_comm]

/-- A slot that reports on its call have changed: the same call, in the same state (R46, R53). -/
structure SameCall (x y : Slot) : Prop where
  state : y.state = x.state
  cls : y.cls = x.cls
  dest : y.dest = x.dest
  tag : y.tag = x.tag
  chain : y.chain = x.chain
  outcome : y.outcome = x.outcome
  budget : y.budget = x.budget
  attempts : y.attempts ≤ x.attempts
  losses : y.losses ≤ 255 ∨ y.losses = x.losses

theorem SameCall.refl (x : Slot) : SameCall x x := ⟨rfl, rfl, rfl, rfl, rfl, rfl, rfl, le_rfl, .inr rfl⟩

/-- The slot of a call whose final outcome is decided (R60). -/
def closedSlot (y : Slot) (o : CallOutcome) : Slot :=
  { y with state := .done, outcome := some o, cancelPending := false }

/-! ## Moves -/

/-- One thing that an event does to the Call Engine. -/
inductive Move (s t : State) : Prop
  /-- backoff timers run, expire or stop (R54) -/
  | still (backoff : Vector (Option Timer) 4) (calls : t.calls = { s.calls with backoff := backoff })
      (runs : ∀ c : Fin 4, backoff[c].isSome = true → s.calls.backoff[c].isSome = true)
      (same : callPhase t = callPhase s)
  /-- TAG_RESET (R58) -/
  | resetTags (d : BitVec 5) (tags : Vector (BitVec 4) 31) (calls : t.calls = { s.calls with tags := tags })
      (idle : s.tagBusy d = false)
      (entries : ∀ i : Fin 31, tags[i] = if d = 0 ∨ i.val = d.toNat then 0 else s.calls.tags[i])
      (same : callPhase t = callPhase s)
  /-- SUBMIT (R46) -/
  | submit (n : SlotId) (x : Slot)
      (calls : t.calls = { s.calls with
        slots := s.calls.slots.set n x, queues := s.calls.queues.set x.cls (s.calls.queues[x.cls] ++ [n]) })
      (free : s.calls.slots[n].state = .free) (queued : x.state = .queued)
      (fresh : x = { x with attempts := 0, losses := 0, tag := none, outcome := none, cancelPending := false })
      (dest : x.dest ≠ 31) (same : callPhase t = callPhase s)
  /-- CQ_POP (R62) -/
  | harvest (r : Completion) (rest : List Completion)
      (calls : t.calls = { s.calls with
        slots := s.calls.slots.set r.slot { s.calls.slots[r.slot] with state := .harvested }, cq := rest })
      (head : s.calls.cq = r :: rest) (same : callPhase t = callPhase s)
  /-- RETIRE (R63) -/
  | retire (n : SlotId) (calls : t.calls = { s.calls with slots := s.calls.slots.set n {} })
      (harvested : s.calls.slots[n].state = .harvested) (same : callPhase t = callPhase s)
  /-- CANCEL of the current call (R65) -/
  | mark (n : SlotId)
      (calls : t.calls = { s.calls with slots := s.calls.slots.set n { s.calls.slots[n] with cancelPending := true } })
      (current : s.calls.current = some n) (same : callPhase t = callPhase s)
  /-- the lead mark of an eligible call begins (R50, R52) -/
  | start (n : SlotId)
      (calls : t.calls = { s.calls with
        slots := s.calls.slots.set n { s.calls.slots[n] with state := .active }, current := some n })
      (able : s.eligible n = true) (idle : callPhase s = none) (contends : callPhase t = some false)
  /-- contention is won (R52, R57) -/
  | won (n : SlotId) (calls : t.calls = (callWon s).calls) (current : s.calls.current = some n)
      (contended : callPhase s = some false) (sends : callPhase t = some true)
  /-- the report sequence of the current call ends without an outcome (R52 to R55) -/
  | returns (n : SlotId) (y : Slot) (backoff : Vector (Option Timer) 4)
      (calls : t.calls = { s.calls with slots := s.calls.slots.set n y, current := none, backoff := backoff })
      (call : SameCall s.calls.slots[n] y) (kept : y.cancelPending = false)
      (attempts : callPhase s = some false ∨ y.attempts ≤ s.calls.slots[n].attempts - 1 ∨ y.attempts ≤ y.budget.toNat)
      (runs : ∀ c : Fin 4, backoff[c].isSome = true → s.calls.backoff[c].isSome = true ∨ c = y.cls)
      (current : s.calls.current = some n) (ends : callPhase t = none)
  /-- a call's final outcome is decided; a report sequence of that call ends with it (R60) -/
  | closes (n : SlotId) (y : Slot) (o : CallOutcome) (source : BitVec 5) (u : State)
      (before : u.calls = { s.calls with
        slots := s.calls.slots.set n y, current := if s.calls.current = some n then none else s.calls.current })
      (calls : t.calls = (closeCall n o source u).calls)
      (call : SameCall s.calls.slots[n] y) (isOpen : s.calls.slots[n].open = true)
      (active : o.successful = true → s.calls.slots[n].state = .active)
      (ends : callPhase t = if s.calls.current = some n then none else callPhase s)

/-- Any number of moves. -/
abbrev Moves : State → State → Prop := Relation.ReflTransGen Move

variable {s t u : State}

theorem Move.of_same (calls : t.calls = s.calls) (same : callPhase t = callPhase s) : Move s t :=
  .still s.calls.backoff calls (fun _ => id) same

theorem Moves.of_same (calls : t.calls = s.calls) (same : callPhase t = callPhase s) : Moves s t :=
  .single (.of_same calls same)

theorem Moves.of_act (calls : t.calls = s.calls) (act : t.link.act = s.link.act) : Moves s t :=
  .of_same calls (congrArg phase act)

/-! ## What a selection may start (R50) -/

theorem eligible_spec {n : SlotId} (able : s.eligible n = true) :
    let x := s.calls.slots[n]
    s.calls.queues[x.cls].head? = some n ∧ s.calls.backoff[x.cls] = none ∧
    (x.dest ≠ 0 → x.tag = none → s.interlocked n = false) := by
  simp only [State.eligible, Bool.and_eq_true, decide_eq_true_eq, Option.isNone_iff_eq_none, and_assoc] at able
  obtain ⟨head, -, -, -, -, backoff, -, interlock⟩ := able
  refine ⟨head, backoff, fun unicast untagged => ?_⟩
  have tag : s.calls.slots[n].tag.isSome = false := by rw [untagged]; rfl
  simpa only [unicast, tag, decide_false, Bool.false_or, Bool.not_eq_true'] using interlock

theorem interlocked_false {n : SlotId} : s.interlocked n = false ↔ ∀ m : SlotId, m ≠ n →
    s.calls.slots[m].open = true → s.calls.slots[m].dest = s.calls.slots[n].dest → s.calls.slots[m].tag = none := by
  simp [State.interlocked]

end Sys2Proof.Calling
end

section
/-! What the final outcome of one call leaves of the Call Engine, field by field (R56, R60, R68). -/

namespace Sys2Proof.Calling

open Sys2Proof.Machine Sys2Proof.Safety

/-! ## Queues -/

theorem head?_erase {l : List SlotId} {m n : SlotId} (head : l.head? = some m) (other : m ≠ n) :
    (l.erase n).head? = some m := by
  obtain ⟨rest, rfl⟩ := List.head?_eq_some_iff.mp head
  simp [other]

theorem head?_erase_behind {l : List SlotId} {n : SlotId} (head : l.head? = some n) :
    (l.erase n).head? = behind n l := by
  obtain ⟨rest, rfl⟩ := List.head?_eq_some_iff.mp head
  simp [behind]

/-- The call behind another stands in the queue, and not at its head (R68). -/
theorem behind_spec {l : List SlotId} {m n : SlotId} (once : l.Nodup) (is : behind n l = some m) :
    m ∈ l ∧ m ≠ n ∧ l.head? ≠ some m := by
  induction l with
  | nil => cases is
  | cons k rest ih =>
    obtain ⟨notIn, once⟩ := List.nodup_cons.mp once
    unfold behind at is
    split at is
    · rename_i here
      subst here
      have inRest := List.mem_of_mem_head? is
      have other : m ≠ k := fun e => notIn (e ▸ inRest)
      exact ⟨List.mem_cons_of_mem _ inRest, other, by simpa using other.symm⟩
    · obtain ⟨inRest, other, -⟩ := ih once is
      have first : m ≠ k := fun e => notIn (e ▸ inRest)
      exact ⟨List.mem_cons_of_mem _ inRest, other, by simpa using first.symm⟩

/-! ## One final outcome -/

variable {s t u : State} {n : SlotId} {y : Slot} {o : CallOutcome} {source : BitVec 5}

/-- A destination's tag advances, and no other (R56). -/
theorem advanceTag_tags (d : BitVec 5) (s : State) (i : Fin 31) : (advanceTag d s).calls.tags[i] =
    if d.toNat = i.val ∧ i.val ≠ 0 then nextTag s.calls.tags[i] else s.calls.tags[i] := by
  unfold advanceTag
  by_cases here : d.toNat = i.val
  · obtain ⟨i, lt⟩ := i
    subst here
    by_cases range : 1 ≤ d.toNat ∧ d.toNat < 31
    · have nonzero : d.toNat ≠ 0 := by omega
      simp [range, nonzero]
    · have zero : d.toNat = 0 := by omega
      simp [zero]
  · split <;> simp [here, Vector.getElem_set_ne]

section
variable (n : SlotId) (o : CallOutcome) (source : BitVec 5) (s : State)

theorem closeCall_tags (d : Fin 31) : (closeCall n o source s).calls.tags[d] =
    if s.calls.slots[n].tag.isSome = true ∧ s.calls.slots[n].dest.toNat = d.val ∧ d.val ≠ 0 then
      nextTag s.calls.tags[d] else s.calls.tags[d] := by
  have tags : (closeCall n o source s).calls.tags = (closeTag s.calls.slots[n] (closeSlot n o s)).calls.tags := by
    simp [closeCall, closePointer]
  rw [tags, closeTag]
  by_cases tagged : s.calls.slots[n].tag.isSome = true
  · rw [if_pos tagged, advanceTag_tags]
    simp only [tagged, true_and]
    rfl
  · rw [if_neg tagged, if_neg fun h => tagged h.1]
    rfl

theorem closeCall_cq :
    (closeCall n o source s).calls.cq = s.calls.cq ++ [s.calls.slots[n].record n o s.calls.seq] :=
  congrArg CallEngine.cq (closeCall_spec s n o source).1
theorem closeCall_seq : (closeCall n o source s).calls.seq = s.calls.seq + 1 :=
  congrArg CallEngine.seq (closeCall_spec s n o source).1
theorem closeCall_current : (closeCall n o source s).calls.current = s.calls.current :=
  (congrArg CallEngine.current (closeCall_spec s n o source).1 :)
theorem closeCall_backoff : (closeCall n o source s).calls.backoff =
    if s.calls.slots[n].state = .active then s.calls.backoff.set s.calls.slots[n].cls none else s.calls.backoff :=
  congrArg CallEngine.backoff (closeCall_spec s n o source).1
theorem closeCall_successor : (closeCall n o source s).calls.successor =
    let after := behind n s.calls.queues[s.calls.slots[n].cls]
    if s.calls.slots[n].chain = true ∧ o.successful = true ∧ after.isSome = true then after
    else if s.calls.successor = some n then none else s.calls.successor :=
  congrArg CallEngine.successor (closeCall_spec s n o source).1
end

/-- What a final outcome of one call leaves of slots, class queues and pointer, where `y` is the slot in which the outcome
finds the call. -/
structure Dequeued (s t : State) (n : SlotId) (y : Slot) (o : CallOutcome) : Prop where
  slot : ∀ m : SlotId, t.calls.slots[m] = if m = n then closedSlot y o else s.calls.slots[m]
  queue : ∀ c : Fin 4, t.calls.queues[c] =
    if s.calls.slots[n].cls = c then s.calls.queues[c].erase n else s.calls.queues[c]
  successor : t.calls.successor =
    if s.calls.slots[n].chain = true ∧ o.successful = true ∧
        (behind n s.calls.queues[s.calls.slots[n].cls]).isSome = true then
      behind n s.calls.queues[s.calls.slots[n].cls]
    else if s.calls.successor = some n then none else s.calls.successor

/-- What a final outcome of one call leaves; a report sequence of that call ends with it. -/
structure Closed (s t : State) (n : SlotId) (y : Slot) (o : CallOutcome) : Prop extends Dequeued s t n y o where
  backoff : ∀ c : Fin 4, t.calls.backoff[c] =
    if s.calls.slots[n].state = .active ∧ s.calls.slots[n].cls = c then none else s.calls.backoff[c]
  current : t.calls.current = if s.calls.current = some n then none else s.calls.current
  record : ∃ r : Completion, r.slot = n ∧ t.calls.cq = s.calls.cq ++ [r]
  tag : ∀ d : Fin 31, t.calls.tags[d] =
    if s.calls.slots[n].tag.isSome = true ∧ s.calls.slots[n].dest.toNat = d.val ∧ d.val ≠ 0 then
      nextTag s.calls.tags[d] else s.calls.tags[d]

theorem dequeued_closeCall (n : SlotId) (o : CallOutcome) (source : BitVec 5) (s : State) :
    Dequeued s (closeCall n o source s) n s.calls.slots[n] o :=
  ⟨StrandBus.closeCall_slots s n o source, StrandBus.closeCall_queues s n o source, closeCall_successor n o source s⟩

theorem closed_of_closeCall
    (before : u.calls = { s.calls with
      slots := s.calls.slots.set n y, current := if s.calls.current = some n then none else s.calls.current })
    (calls : t.calls = (closeCall n o source u).calls) (call : SameCall s.calls.slots[n] y) : Closed s t n y o := by
  have slots (m : SlotId) : u.calls.slots[m] = if m = n then y else s.calls.slots[m] := by
    rw [before]; exact getElem_set_fin ..
  have found : u.calls.slots[n] = y := by rw [slots, if_pos rfl]
  have queues : u.calls.queues = s.calls.queues := by rw [before]
  have backoff : u.calls.backoff = s.calls.backoff := by rw [before]
  have queue : u.calls.queues[u.calls.slots[n].cls] = s.calls.queues[s.calls.slots[n].cls] := by
    simp only [found, call.cls, queues]
  refine ⟨⟨?_, ?_, ?_⟩, ?_, ?_, ?_, ?_⟩
  · intro m
    rw [calls, StrandBus.closeCall_slots, found, slots]
    split <;> rfl
  · intro c
    rw [calls, StrandBus.closeCall_queues, found, call.cls, queues]
  · rw [calls, closeCall_successor, queue, found, call.chain, before]
  · intro c
    have all : u.calls.backoff.set u.calls.slots[n].cls none = s.calls.backoff.set s.calls.slots[n].cls none := by
      simp only [found, call.cls, backoff]
    by_cases active : s.calls.slots[n].state = .active
    · rw [calls, closeCall_backoff, if_pos (by rw [found, call.state, active]), all, getElem_set_fin]
      simp only [active, true_and, eq_comm]
    · rw [calls, closeCall_backoff, if_neg (by rwa [found, call.state]), if_neg fun h => active h.1, backoff]
  · rw [calls, closeCall_current, before]
  · exact ⟨_, rfl, by rw [calls, closeCall_cq, before]⟩
  · intro d
    rw [calls, closeCall_tags, found, call.tag, call.dest, before]

end Sys2Proof.Calling
end

section
/-! Slots, class queues, Completion Queue, current call and chain successor, kept by every move (R47 to R49, R60, R62,
R68). -/

namespace Sys2Proof.Safety

open Sys2Proof.Machine Sys2Proof.Calling

variable {s t : State} {n : SlotId} {y : Slot} {o : CallOutcome}

/-! ## The class queues -/

theorem ClassQueuesCoherent.head_of (h : ClassQueuesCoherent s) {c : Fin 4} (active : s.calls.slots[n].state = .active)
    (cls : s.calls.slots[n].cls = c) : s.calls.queues[c].head? = some n := by
  subst cls; exact h.head n active

theorem ClassQueuesCoherent.successor_of (h : ClassQueuesCoherent s) {c : Fin 4} (is : s.calls.successor = some n)
    (cls : s.calls.slots[n].cls = c) : s.calls.queues[c].head? = some n := by
  subst cls; exact h.successor n is

/-- The coherence of the class queues, with the class of a call as a number of its own. -/
theorem classQueuesCoherent_of
    (member : ∀ (m : SlotId) (c : Fin 4),
      m ∈ s.calls.queues[c] ↔ s.calls.slots[m].open = true ∧ s.calls.slots[m].cls = c)
    (once : ∀ c : Fin 4, s.calls.queues[c].Nodup)
    (head : ∀ (m : SlotId) (c : Fin 4), s.calls.slots[m].state = .active → s.calls.slots[m].cls = c →
      s.calls.queues[c].head? = some m)
    (successor : ∀ (m : SlotId) (c : Fin 4), s.calls.successor = some m → s.calls.slots[m].cls = c →
      s.calls.queues[c].head? = some m) : ClassQueuesCoherent s :=
  ⟨member, once, fun m active => head m _ active rfl, fun m is => successor m _ is rfl⟩

theorem open_of_active {x : Slot} (active : x.state = .active) : x.open = true := by simp [Slot.open, active]
theorem open_of_queued {x : Slot} (queued : x.state = .queued) : x.open = true := by simp [Slot.open, queued]
theorem open_congr {x z : Slot} (state : z.state = x.state) : z.open = x.open := by simp [Slot.open, state]
theorem not_open_closed (z : Slot) (o : CallOutcome) : (closedSlot z o).open = false := rfl

/-- The head of a class queue is an open call of the class. -/
theorem ClassQueuesCoherent.open_of_head (h : ClassQueuesCoherent s) {c : Fin 4}
    (head : s.calls.queues[c].head? = some n) : s.calls.slots[n].open = true ∧ s.calls.slots[n].cls = c :=
  (h.member n c).mp (List.mem_of_mem_head? head)

/-- The call behind another is QUEUED, since an ACTIVE call is at the head (R47, R68). -/
theorem ClassQueuesCoherent.queued_behind (h : ClassQueuesCoherent s) {c : Fin 4} {m : SlotId}
    (is : behind n s.calls.queues[c] = some m) :
    s.calls.slots[m].state = .queued ∧ s.calls.slots[m].cls = c ∧ m ≠ n := by
  obtain ⟨inQueue, other, notHead⟩ := behind_spec (h.once c) is
  obtain ⟨isOpen, cls⟩ := (h.member m c).mp inQueue
  refine ⟨?_, cls, other⟩
  by_contra notQueued
  have active : s.calls.slots[m].state = .active := by
    simpa only [Slot.open, notQueued, decide_false, Bool.false_or, decide_eq_true_eq] using isOpen
  exact notHead (h.head_of active cls)

/-- A final outcome takes its call out of its class queue (R60, R68). -/
theorem ClassQueuesCoherent.closed (h : ClassQueuesCoherent s) (c : Dequeued s t n y o)
    (active : o.successful = true → s.calls.slots[n].state = .active) : ClassQueuesCoherent t := by
  have other {m : SlotId} (ne : m ≠ n) : t.calls.slots[m] = s.calls.slots[m] := by rw [c.slot, if_neg ne]
  have self : t.calls.slots[n] = closedSlot y o := by rw [c.slot, if_pos rfl]
  have head {m : SlotId} {d : Fin 4} (ne : m ≠ n) (was : s.calls.queues[d].head? = some m) :
      t.calls.queues[d].head? = some m := by
    rw [c.queue]
    split
    · exact head?_erase was ne
    · exact was
  refine classQueuesCoherent_of (fun m d => ?_) (fun d => ?_) (fun m d isActive cls => ?_) (fun m d is cls => ?_)
  · rw [c.queue]
    by_cases ne : m = n
    · subst ne
      rw [self, not_open_closed]
      split
      · rw [(h.once d).mem_erase_iff]
        simp
      · rename_i elsewhere
        rw [h.member]
        simp only [elsewhere, and_false, Bool.false_eq_true, false_and]
    · rw [other ne, ← h.member]
      split
      · exact List.mem_erase_of_ne ne
      · rfl
  · rw [c.queue]
    split
    · exact (h.once d).erase n
    · exact h.once d
  · have ne : m ≠ n := by
      rintro rfl
      rw [self] at isActive
      cases isActive
    rw [other ne] at isActive cls
    exact head ne (h.head_of isActive cls)
  · rw [c.successor] at is
    split at is
    · rename_i chained
      obtain ⟨-, succeeds, -⟩ := chained
      obtain ⟨-, sameClass, ne⟩ := h.queued_behind is
      rw [other ne] at cls
      have here : s.calls.slots[n].cls = d := sameClass.symm.trans cls
      simp only [here] at is
      rw [c.queue, if_pos here, head?_erase_behind (h.head_of (active succeeds) here), is]
    · split at is
      · cases is
      · rename_i notSelf
        have ne : m ≠ n := by
          rintro rfl
          exact notSelf is
        rw [other ne] at cls
        exact head ne (h.successor_of is cls)

/-- Slots that stay in their states and classes leave the class queues in order. -/
theorem ClassQueuesCoherent.of_same (h : ClassQueuesCoherent s)
    (slots : ∀ m : SlotId, t.calls.slots[m].open = s.calls.slots[m].open ∧
      (t.calls.slots[m].state = .active → s.calls.slots[m].state = .active) ∧
      (s.calls.slots[m].open = true → t.calls.slots[m].cls = s.calls.slots[m].cls))
    (queues : t.calls.queues = s.calls.queues) (successor : t.calls.successor = s.calls.successor) :
    ClassQueuesCoherent t := by
  have cls {m : SlotId} {c : Fin 4} (isOpen : s.calls.slots[m].open = true) (is : t.calls.slots[m].cls = c) :
      s.calls.slots[m].cls = c := ((slots m).2.2 isOpen).symm.trans is
  refine classQueuesCoherent_of (fun m c => ?_) (fun c => ?_) (fun m c active is => ?_) (fun m c next is => ?_)
  · obtain ⟨isOpen, -, same⟩ := slots m
    rw [queues, h.member, isOpen]
    exact and_congr_right fun o => by rw [same o]
  · rw [queues]; exact h.once c
  · have was := (slots m).2.1 active
    rw [queues]
    exact h.head_of was (cls (open_of_active was) is)
  · rw [successor] at next
    rw [queues]
    exact h.successor_of next (cls (h.open_of_head (h.successor m next)).1 is)

/-- An accepted SUBMIT joins the tail of its class queue (R46). -/
theorem ClassQueuesCoherent.submitted (h : ClassQueuesCoherent s) {x : Slot}
    (calls : t.calls = { s.calls with
      slots := s.calls.slots.set n x, queues := s.calls.queues.set x.cls (s.calls.queues[x.cls] ++ [n]) })
    (free : s.calls.slots[n].state = .free) (queued : x.state = .queued) : ClassQueuesCoherent t := by
  have slot (m : SlotId) : t.calls.slots[m] = if m = n then x else s.calls.slots[m] := by
    rw [calls]; exact getElem_set_fin ..
  have queue (c : Fin 4) : t.calls.queues[c] =
      if c = x.cls then s.calls.queues[c] ++ [n] else s.calls.queues[c] := by
    simp only [calls, getElem_set_fin]
    split
    · rename_i e; subst e; rfl
    · rfl
  have out (c : Fin 4) : n ∉ s.calls.queues[c] := by
    rw [h.member, Slot.open, free]
    simp
  have head {m : SlotId} {c : Fin 4} (was : s.calls.queues[c].head? = some m) :
      t.calls.queues[c].head? = some m ∧ m ≠ n := by
    refine ⟨?_, fun e => out c (e ▸ List.mem_of_mem_head? was)⟩
    rw [queue]
    split
    · rw [List.head?_append, was]; rfl
    · exact was
  have before {m : SlotId} {c : Fin 4} (ne : m ≠ n) (is : t.calls.slots[m].cls = c) : s.calls.slots[m].cls = c := by
    rwa [slot, if_neg ne] at is
  refine classQueuesCoherent_of (fun m c => ?_) (fun c => ?_) (fun m c active is => ?_) (fun m c next is => ?_)
  · rw [queue, slot]
    by_cases ne : m = n
    · subst ne
      rw [if_pos rfl, open_of_queued queued]
      split
      · rename_i here; simp [here]
      · rename_i elsewhere; exact ⟨fun m => absurd m (out c), fun m => absurd m.2.symm elsewhere⟩
    · rw [if_neg ne, ← h.member]
      split
      · simp [ne]
      · rfl
  · rw [queue]
    split
    · exact (h.once c).append (List.nodup_singleton n) (by simpa using out c)
    · exact h.once c
  · have ne : m ≠ n := by
      rintro rfl
      rw [slot, if_pos rfl, queued] at active
      cases active
    rw [slot, if_neg ne] at active
    exact (head (h.head_of active (before ne is))).1
  · have next' : s.calls.successor = some m := by rwa [calls] at next
    obtain ⟨-, ne⟩ := head (h.successor m next')
    exact (head (h.successor_of next' (before ne is))).1

end Sys2Proof.Safety
end

section
/-! Slots, class queues, Completion Queue, current call and chain successor, kept by every move (R47 to R49, R60, R62,
R68). -/

namespace Sys2Proof.Safety

open Sys2Proof.Machine Sys2Proof.Calling

variable {s t : State} {n : SlotId}

theorem QueuesCoherent.phase (q : QueuesCoherent s) : s.calls.current.isSome = (callPhase s).isSome := by
  rw [q.underWay, ownCall_eq, callPhase]

theorem QueuesCoherent.current_none (q : QueuesCoherent s) (idle : callPhase s = none) : s.calls.current = none := by
  simpa [idle] using q.phase

theorem QueuesCoherent.current_some (q : QueuesCoherent s) {won : Bool} (own : callPhase s = some won) :
    ∃ n, s.calls.current = some n ∧ s.calls.slots[n].state = .active := by
  obtain ⟨n, current⟩ := Option.isSome_iff_exists.mp (q.phase.trans (by rw [own]; rfl))
  exact ⟨n, current, q.current n current⟩

/-- Timers and tags say nothing of queues and records. -/
theorem QueuesCoherent.of_fields (q : QueuesCoherent s) (slots : t.calls.slots = s.calls.slots)
    (queues : t.calls.queues = s.calls.queues) (successor : t.calls.successor = s.calls.successor)
    (cq : t.calls.cq = s.calls.cq) (current : t.calls.current = s.calls.current) (same : callPhase t = callPhase s) :
    QueuesCoherent t where
  member := by simpa only [slots, queues] using q.member
  once := by simpa only [queues] using q.once
  head := by simpa only [slots, queues] using q.head
  successor := by simpa only [slots, queues, successor] using q.successor
  records := by simpa only [slots, cq] using q.records
  recordsOnce := by simpa only [cq] using q.recordsOnce
  free := by simpa only [slots] using q.free
  outcome := by simpa only [slots] using q.outcome
  current := by simpa only [slots, current] using q.current
  underWay := by rw [current, ownCall_eq, q.phase, ← same, callPhase]

/-- Slots of which at most one changes, and without a change of its state, leave all in agreement. -/
theorem QueuesCoherent.of_slot (q : QueuesCoherent s) {y : Slot}
    (slot : ∀ m : SlotId, t.calls.slots[m] = if m = n then y else s.calls.slots[m])
    (state : y.state = s.calls.slots[n].state) (notFree : y.state ≠ .free) (cls : y.cls = s.calls.slots[n].cls)
    (outcome : y.outcome = s.calls.slots[n].outcome)
    (queues : t.calls.queues = s.calls.queues) (successor : t.calls.successor = s.calls.successor)
    (cq : t.calls.cq = s.calls.cq)
    (current : ∀ m : SlotId, t.calls.current = some m → s.calls.current = some m)
    (phase : t.calls.current.isSome = (callPhase t).isSome) : QueuesCoherent t := by
  have same (m : SlotId) : t.calls.slots[m].state = s.calls.slots[m].state ∧
      t.calls.slots[m].cls = s.calls.slots[m].cls ∧ t.calls.slots[m].outcome = s.calls.slots[m].outcome := by
    rw [slot]
    split
    · rename_i e; subst e; exact ⟨state, cls, outcome⟩
    · exact ⟨rfl, rfl, rfl⟩
  refine ⟨q.toClassQueuesCoherent.of_same (fun m => ?_) queues successor, fun m => ?_, ?_, fun m free => ?_,
    fun m => ?_, fun m is => ?_, by rw [phase, ownCall_eq]; rfl⟩
  · obtain ⟨state, cls, -⟩ := same m
    exact ⟨open_congr state, fun active => state ▸ active, fun _ => cls⟩
  · rw [cq, (same m).1]; exact q.records m
  · rw [cq]; exact q.recordsOnce
  · have ne : m ≠ n := by
      rintro rfl
      rw [slot, if_pos rfl] at free
      exact notFree free
    rw [slot, if_neg ne] at free ⊢
    exact q.free m free
  · obtain ⟨state, -, outcome⟩ := same m
    rw [outcome, q.outcome, Slot.decided, Slot.decided, state]
  · rw [(same m).1]; exact q.current m (current m is)

/-- A final outcome leaves all in agreement (R60, R61). -/
theorem QueuesCoherent.closed (q : QueuesCoherent s) {y : Slot} {o : CallOutcome} (c : Closed s t n y o)
    (isOpen : s.calls.slots[n].open = true)
    (active : o.successful = true → s.calls.slots[n].state = .active)
    (ends : callPhase t = if s.calls.current = some n then none else callPhase s) : QueuesCoherent t := by
  obtain ⟨r, rfl, cq⟩ := c.record
  have self : t.calls.slots[r.slot] = closedSlot y o := by rw [c.slot, if_pos rfl]
  have other {m : SlotId} (ne : m ≠ r.slot) : t.calls.slots[m] = s.calls.slots[m] := by rw [c.slot, if_neg ne]
  have fresh : r.slot ∉ s.calls.cq.map Completion.slot := by
    rw [q.records]
    intro done
    rw [Slot.open, done] at isOpen
    cases isOpen
  refine ⟨q.toClassQueuesCoherent.closed c.toDequeued active, fun m => ?_, ?_, fun m free => ?_, fun m => ?_, fun m is => ?_, ?_⟩
  · rw [cq, List.map_append, List.mem_append, q.records]
    by_cases ne : m = r.slot
    · subst ne; rw [self]; simp [closedSlot]
    · rw [other ne]; simp [ne]
  · rw [cq, List.map_append]
    exact q.recordsOnce.append (List.nodup_singleton _) (by simpa using fresh)
  · have ne : m ≠ r.slot := by
      rintro rfl
      rw [self] at free
      cases free
    rw [other ne] at free ⊢
    exact q.free m free
  · by_cases ne : m = r.slot
    · subst ne; rw [self]; rfl
    · rw [other ne]; exact q.outcome m
  · rw [c.current] at is
    split at is
    · cases is
    · rename_i notSelf
      have ne : m ≠ r.slot := fun e => notSelf (e ▸ is)
      rw [other ne]
      exact q.current m is
  · rw [c.current, ownCall_eq]
    change _ = (callPhase t).isSome
    rw [ends]
    split
    · rfl
    · exact q.phase

/-- An accepted SUBMIT leaves all in agreement (R46). -/
theorem QueuesCoherent.submitted (q : QueuesCoherent s) {x : Slot}
    (calls : t.calls = { s.calls with
      slots := s.calls.slots.set n x, queues := s.calls.queues.set x.cls (s.calls.queues[x.cls] ++ [n]) })
    (free : s.calls.slots[n].state = .free) (queued : x.state = .queued) (outcome : x.outcome = none)
    (same : callPhase t = callPhase s) : QueuesCoherent t := by
  have self : t.calls.slots[n] = x := by rw [calls]; exact (getElem_set_fin ..).trans (if_pos rfl)
  have other {m : SlotId} (ne : m ≠ n) : t.calls.slots[m] = s.calls.slots[m] := by
    rw [calls]; exact (getElem_set_fin ..).trans (if_neg ne)
  have cq : t.calls.cq = s.calls.cq := by rw [calls]
  have current : t.calls.current = s.calls.current := by rw [calls]
  refine ⟨q.toClassQueuesCoherent.submitted calls free queued, fun m => ?_, by rw [cq]; exact q.recordsOnce,
    fun m isFree => ?_, fun m => ?_, fun m is => ?_, ?_⟩
  · rw [cq, q.records]
    by_cases ne : m = n
    · subst ne; rw [self, free, queued]; simp
    · rw [other ne]
  · by_cases ne : m = n
    · subst ne; rw [self, queued] at isFree; cases isFree
    · rw [other ne] at isFree ⊢; exact q.free m isFree
  · by_cases ne : m = n
    · subst ne; rw [self, outcome, Slot.decided, queued]; rfl
    · rw [other ne]; exact q.outcome m
  · rw [current] at is
    have active := q.current m is
    have ne : m ≠ n := by
      rintro rfl
      rw [free] at active
      cases active
    rw [other ne]
    exact active
  · rw [current, ownCall_eq, q.phase, ← same, callPhase]

/-- A slot whose outcome has been decided is harvested or returns to FREE (R62, R63). -/
theorem QueuesCoherent.retired (q : QueuesCoherent s) {y : Slot} {cq : List Completion}
    (calls : t.calls = { s.calls with slots := s.calls.slots.set n y, cq := cq })
    (decided : s.calls.slots[n].decided = true) (was : y.open = false)
    (records : ∀ m : SlotId, m ∈ cq.map Completion.slot ↔ t.calls.slots[m].state = .done)
    (once : (cq.map Completion.slot).Nodup)
    (free : y.state = .free → y = {}) (outcome : y.outcome.isSome = y.decided)
    (same : callPhase t = callPhase s) : QueuesCoherent t := by
  have self : t.calls.slots[n] = y := by rw [calls]; exact (getElem_set_fin ..).trans (if_pos rfl)
  have other {m : SlotId} (ne : m ≠ n) : t.calls.slots[m] = s.calls.slots[m] := by
    rw [calls]; exact (getElem_set_fin ..).trans (if_neg ne)
  have current : t.calls.current = s.calls.current := by rw [calls]
  have closed : s.calls.slots[n].open = false := by
    simp only [Slot.decided, Bool.or_eq_true, decide_eq_true_eq] at decided
    rw [Slot.open]
    obtain h | h := decided <;> rw [h] <;> rfl
  refine ⟨q.toClassQueuesCoherent.of_same (fun m => ?_) (by rw [calls]) (by rw [calls]), ?_, ?_, fun m isFree => ?_,
    fun m => ?_, fun m is => ?_, ?_⟩
  · by_cases ne : m = n
    · subst ne
      rw [self, was, closed]
      refine ⟨rfl, fun active => ?_, nofun⟩
      rw [open_of_active active] at was
      cases was
    · rw [other ne]; exact ⟨rfl, id, fun _ => rfl⟩
  · rw [calls] at records ⊢; exact records
  · rw [calls]; exact once
  · by_cases ne : m = n
    · subst ne; rw [self] at isFree ⊢; exact free isFree
    · rw [other ne] at isFree ⊢; exact q.free m isFree
  · by_cases ne : m = n
    · subst ne; rw [self]; exact outcome
    · rw [other ne]; exact q.outcome m
  · rw [current] at is
    have active := q.current m is
    have ne : m ≠ n := by
      rintro rfl
      rw [open_of_active active] at closed
      cases closed
    rw [other ne]
    exact active
  · rw [current, ownCall_eq, q.phase, ← same, callPhase]

/-- The lead mark of a class queue's head (R49, R52). -/
theorem QueuesCoherent.started (q : QueuesCoherent s)
    (calls : t.calls = { s.calls with
      slots := s.calls.slots.set n { s.calls.slots[n] with state := .active }, current := some n })
    (head : s.calls.queues[s.calls.slots[n].cls].head? = some n) (contends : callPhase t = some false) :
    QueuesCoherent t := by
  have isOpen := (q.open_of_head head).1
  have self : t.calls.slots[n] = { s.calls.slots[n] with state := .active } := by
    rw [calls]; exact (getElem_set_fin ..).trans (if_pos rfl)
  have other {m : SlotId} (ne : m ≠ n) : t.calls.slots[m] = s.calls.slots[m] := by
    rw [calls]; exact (getElem_set_fin ..).trans (if_neg ne)
  have queues : t.calls.queues = s.calls.queues := by rw [calls]
  have cq : t.calls.cq = s.calls.cq := by rw [calls]
  have notDone : s.calls.slots[n].state ≠ .done ∧ s.calls.slots[n].decided = false := by
    simp only [Slot.open, Bool.or_eq_true, decide_eq_true_eq] at isOpen
    rw [Slot.decided]
    obtain h | h := isOpen <;> rw [h] <;> exact ⟨nofun, rfl⟩
  refine ⟨classQueuesCoherent_of (fun m c => ?_) (fun c => ?_) (fun m c active is => ?_) (fun m c next is => ?_),
    fun m => ?_, by rw [cq]; exact q.recordsOnce, fun m isFree => ?_, fun m => ?_, fun m is => ?_, ?_⟩
  · rw [queues, q.member]
    by_cases ne : m = n
    · subst ne; rw [self, isOpen]; rfl
    · rw [other ne]
  · rw [queues]; exact q.once c
  · rw [queues]
    by_cases ne : m = n
    · subst ne
      rw [self] at is
      simpa only [show s.calls.slots[m].cls = c from is] using head
    · rw [other ne] at active is
      exact q.head_of active is
  · rw [queues]
    have next' : s.calls.successor = some m := by rwa [calls] at next
    have cls : s.calls.slots[m].cls = c := by
      by_cases ne : m = n
      · subst ne; rwa [self] at is
      · rwa [other ne] at is
    exact q.successor_of next' cls
  · rw [cq, q.records]
    by_cases ne : m = n
    · subst ne; rw [self]; exact iff_of_false notDone.1 nofun
    · rw [other ne]
  · have ne : m ≠ n := by
      rintro rfl
      rw [self] at isFree
      cases isFree
    rw [other ne] at isFree ⊢
    exact q.free m isFree
  · by_cases ne : m = n
    · subst ne
      rw [self]
      exact (q.outcome m).trans notDone.2
    · rw [other ne]; exact q.outcome m
  · obtain rfl : n = m := by rw [calls] at is; exact Option.some.inj is
    rw [self]
  · rw [calls, ownCall_eq]
    change _ = (callPhase t).isSome
    rw [contends]
    rfl

/-- Contention won changes the attempts and the tag of the current call (R52, R57). -/
theorem callWon_calls (current : s.calls.current = some n) : (callWon s).calls = { s.calls with
    slots := s.calls.slots.set n { s.calls.slots[n] with
      attempts := s.calls.slots[n].attempts + 1
      tag := if s.calls.slots[n].dest = 0 then none
        else some (s.calls.slots[n].tag.getD (s.tagOf s.calls.slots[n].dest)) } } := by
  unfold callWon
  split
  · rename_i none
    exact absurd (none.symm.trans current) nofun
  · rename_i m is
    obtain rfl : m = n := Option.some.inj (is.symm.trans current)
    rfl

/-- A rewritten slot as the slots of the next state. -/
theorem slot_of_set {c : CallEngine} {y : Slot} (calls : t.calls = c) (slots : c.slots = s.calls.slots.set n y)
    (m : SlotId) : t.calls.slots[m] = if m = n then y else s.calls.slots[m] := by
  rw [calls, slots]; exact getElem_set_fin ..

/-- Every move keeps slots, queues, records, current call and pointer in agreement. -/
theorem QueuesCoherent.move (q : QueuesCoherent s) (m : Move s t) : QueuesCoherent t := by
  have active {n : SlotId} {x : SlotState} (current : s.calls.current = some n) (state : x = s.calls.slots[n].state) :
      x ≠ .free := by
    rw [state, q.current n current]; nofun
  cases m with
  | still backoff calls runs same =>
    exact q.of_fields (by rw [calls]) (by rw [calls]) (by rw [calls]) (by rw [calls]) (by rw [calls]) same
  | resetTags d tags calls idle entries same =>
    exact q.of_fields (by rw [calls]) (by rw [calls]) (by rw [calls]) (by rw [calls]) (by rw [calls]) same
  | submit n x calls free queued fresh dest same =>
    exact q.submitted calls free queued (by rw [fresh]) same
  | harvest r rest calls head same =>
    have done : s.calls.slots[r.slot].state = .done := (q.records r.slot).mp (by simp [head])
    have once := q.recordsOnce
    rw [head, List.map_cons, List.nodup_cons] at once
    refine q.retired calls (by rw [Slot.decided, done]; rfl) rfl (fun m => ?_) once.2 nofun
      ((q.outcome r.slot).trans (by rw [Slot.decided, done]; rfl)) same
    rw [slot_of_set calls rfl]
    split
    · rename_i e; subst e; exact iff_of_false once.1 nofun
    · rename_i ne; rw [← q.records, head]; simp [ne]
  | retire n calls harvested same =>
    refine q.retired calls (by rw [Slot.decided, harvested]; rfl) rfl (fun m => ?_) q.recordsOnce (fun _ => rfl) rfl same
    rw [slot_of_set calls rfl, q.records]
    split
    · rename_i e; subst e; rw [harvested]; exact iff_of_false nofun nofun
    · rfl
  | mark n calls current same =>
    exact q.of_slot (slot_of_set calls rfl) rfl (active current rfl) rfl rfl (by rw [calls]) (by rw [calls])
      (by rw [calls]) (fun m is => by rwa [calls] at is) (by rw [calls, same]; exact q.phase)
  | start n calls able idle contends => exact q.started calls (eligible_spec able).1 contends
  | won n calls current contended sends =>
    rw [callWon_calls current] at calls
    exact q.of_slot (slot_of_set calls rfl) rfl (active current rfl) rfl rfl (by rw [calls]) (by rw [calls])
      (by rw [calls]) (fun m is => by rwa [calls] at is) (by rw [calls, sends, current]; rfl)
  | returns n y backoff calls call kept attempts runs current ends =>
    exact q.of_slot (slot_of_set calls rfl) call.state (active current call.state) call.cls call.outcome
      (by rw [calls]) (by rw [calls]) (by rw [calls]) (fun m is => by rw [calls] at is; cases is)
      (by rw [calls, ends]; rfl)
  | closes n y o source u before calls call isOpen active ends =>
    exact q.closed (closed_of_closeCall before calls call) isOpen active ends

theorem QueuesCoherent.moves (q : QueuesCoherent s) (m : Moves s t) : QueuesCoherent t := by
  induction m with
  | refl => exact q
  | tail _ one ih => exact ih.move one

end Sys2Proof.Safety
end

section
/-! What events do to the Call Engine, as moves: outcomes with the chains they break, reports, selection (R29, R49 to R69). -/

namespace Sys2Proof.Calling

open Sys2Proof.Machine Sys2Proof.Safety

variable {s t u v : State} {n m : SlotId}

/-! ## Outcomes -/

/-- The calls of a broken chain end one after another (R69). `v` is the state as the Call Engine will see it at the end of
the event, whose calls are those of `s`. -/
theorem moves_closeChain (fuel : Nat) : ∀ {s v : State} {m : SlotId} (o : CallOutcome) (source : BitVec 5),
    QueuesCoherent v → v.calls = s.calls → v.calls.slots[m].state = .queued → o.successful = false →
    ∀ {t : State}, t.calls = (closeChain fuel m o source s).calls → callPhase t = callPhase v → Moves v t := by
  induction fuel with
  | zero =>
    intro s v m o source q same queued fails t calls phase
    exact .of_same (calls.trans same.symm) phase
  | succ fuel ih =>
    intro s v m o source q same queued fails t calls phase
    have notCurrent : v.calls.current ≠ some m := by
      intro current
      have active := q.current m current
      rw [queued] at active
      cases active
    have before : s.calls = { v.calls with
        slots := v.calls.slots.set m v.calls.slots[m]
        current := if v.calls.current = some m then none else v.calls.current } := by
      rw [if_neg notCurrent, Fin.getElem_fin, Vector.set_getElem_self, same]
    have one {w : State} (calls : w.calls = (closeCall m o source s).calls) (phase : callPhase w = callPhase v) :
        Move v w :=
      .closes m _ o source s before calls (.refl _) (open_of_queued queued) (fun succeeds => by simp [fails] at succeeds)
        (by rw [if_neg notCurrent, phase])
    unfold closeChain at calls
    dsimp only at calls
    split at calls
    · split at calls
      · rename_i k next
        simp only [← same] at next
        have first := one (w := { v with calls := (closeCall m o source s).calls }) rfl rfl
        refine .head first (ih (s := closeCall m o source s) .chainBroken 0 (q.move first) rfl ?_ rfl calls phase)
        obtain ⟨queued, -, other⟩ := q.queued_behind next
        exact (congrArg Slot.state ((StrandBus.closeCall_slots s m o source k).trans (if_neg other))).trans
          (by rw [← same]; exact queued)
      · exact .single (one calls phase)
    · exact .single (one calls phase)

/-- A final outcome, which may end the report sequence of its call, and the chain that it breaks (R60, R69). -/
theorem moves_decideOutcome (q : QueuesCoherent s) {y : Slot}
    (before : u.calls = { s.calls with
      slots := s.calls.slots.set n y, current := if s.calls.current = some n then none else s.calls.current })
    (call : SameCall s.calls.slots[n] y) (isOpen : s.calls.slots[n].open = true) (o : CallOutcome) (source : BitVec 5)
    (active : o.successful = true → s.calls.slots[n].state = .active)
    (calls : t.calls = (decideOutcome n o source u).calls)
    (ends : callPhase t = if s.calls.current = some n then none else callPhase s) : Moves s t := by
  have one {w : State} (calls : w.calls = (closeCall n o source u).calls) (phase : callPhase w = callPhase t) :
      Move s w :=
    .closes n y o source u before calls call isOpen active (by rw [phase, ends])
  rw [decideOutcome, closeChain] at calls
  split at calls
  · split at calls
    · rename_i k next
      have first := one (w := { t with calls := (closeCall n o source u).calls }) rfl rfl
      refine .head first
        (moves_closeChain _ (s := closeCall n o source u) .chainBroken 0 (q.move first) rfl ?_ rfl calls rfl)
      have slot := slot_of_set before rfl n
      rw [if_pos rfl] at slot
      have queues : u.calls.queues = s.calls.queues := by rw [before]
      simp only [slot, call.cls, queues] at next
      obtain ⟨queued, -, other⟩ := q.queued_behind next
      exact (congrArg Slot.state ((StrandBus.closeCall_slots u n o source k).trans (if_neg other))).trans
        ((congrArg Slot.state ((slot_of_set before rfl k).trans (if_neg other))).trans queued)
    · exact .single (one calls rfl)
  · exact .single (one calls rfl)

/-- The final outcome of an open call that is not current. -/
theorem moves_decideOutcome_other (q : QueuesCoherent s) (isOpen : s.calls.slots[n].open = true)
    (other : s.calls.current ≠ some n) {o : CallOutcome} (fails : o.successful = false) (source : BitVec 5)
    (calls : t.calls = (decideOutcome n o source s).calls) (same : callPhase t = callPhase s) : Moves s t := by
  refine moves_decideOutcome q (y := s.calls.slots[n]) ?_ (.refl _) isOpen o source (fun h => by simp [fails] at h) calls ?_
  · rw [if_neg other, Fin.getElem_fin, Vector.set_getElem_self]
  · rw [if_neg other, same]

/-! ## Reports (R52 to R55, R66) -/

/-- The report sequence of the current call ends, with or without an outcome, which is then CANCELLED where a cancellation
is pending. -/
theorem moves_endWith (q : QueuesCoherent s) (current : s.calls.current = some n) {y : Slot}
    (call : SameCall s.calls.slots[n] y)
    (before : u.calls = { s.calls with slots := s.calls.slots.set n y, current := none }) (ends : callPhase t = none) :
    (∀ o source, t.calls = (decideOutcome n o source u).calls → Moves s t) ∧
    (y.cancelPending = false →
      (callPhase s = some false ∨ y.attempts ≤ s.calls.slots[n].attempts - 1 ∨ y.attempts ≤ y.budget.toNat) →
      ∀ backoff : Vector (Option Timer) 4, t.calls = { u.calls with backoff := backoff } →
      (∀ c : Fin 4, backoff[c].isSome = true → s.calls.backoff[c].isSome = true ∨ c = y.cls) → Moves s t) := by
  have active := q.current n current
  refine ⟨fun o source calls => ?_, fun kept attempts backoff calls runs => ?_⟩
  · exact moves_decideOutcome q (by rw [before, if_pos current]) call (open_of_active active) o source (fun _ => active)
      calls (by rw [ends, if_pos current])
  · exact .single (.returns n y backoff (by rw [calls, before]) call kept attempts runs current ends)

theorem moves_callLost (q : QueuesCoherent s) (contends : callPhase s = some false)
    (calls : t.calls = (callLost s).calls) (ends : callPhase t = none) : Moves s t := by
  obtain ⟨n, current, -⟩ := q.current_some contends
  rw [StrandBus.callLost_eq current] at calls
  have call : SameCall s.calls.slots[n]
      { s.calls.slots[n] with losses := min 255 (s.calls.slots[n].losses + 1) } :=
    ⟨rfl, rfl, rfl, rfl, rfl, rfl, rfl, le_rfl, .inl (min_le_left ..)⟩
  obtain ⟨decided, returned⟩ := moves_endWith (u := StrandBus.ageEnded (StrandBus.endWith n _ s)) q current call rfl ends
  dsimp only at calls
  split at calls
  · exact decided _ _ calls
  · rename_i kept
    split at calls
    · exact decided _ _ calls
    · exact returned (by simpa using kept) (.inl contends) s.calls.backoff calls fun _ => .inl

theorem moves_callAbandoned (q : QueuesCoherent s) (contends : callPhase s = some false)
    (calls : t.calls = (callAbandoned s).calls) (ends : callPhase t = none) : Moves s t := by
  obtain ⟨n, current, -⟩ := q.current_some contends
  have before : (endCurrent s).calls =
      { s.calls with slots := s.calls.slots.set n s.calls.slots[n], current := none } := by
    rw [Fin.getElem_fin, Vector.set_getElem_self]; rfl
  obtain ⟨decided, returned⟩ := moves_endWith q current (.refl _) before ends
  simp only [callAbandoned, current] at calls
  split at calls
  · exact decided _ _ calls
  · rename_i kept
    exact returned (by simpa using kept) (.inl contends) s.calls.backoff calls fun _ => .inl

theorem moves_callWithdrawn (q : QueuesCoherent s) (won : callPhase s = some true)
    (calls : t.calls = (callWithdrawn s).calls) (ends : callPhase t = none) : Moves s t := by
  obtain ⟨n, current, -⟩ := q.current_some won
  have call : SameCall s.calls.slots[n] { s.calls.slots[n] with attempts := s.calls.slots[n].attempts - 1 } :=
    ⟨rfl, rfl, rfl, rfl, rfl, rfl, rfl, Nat.sub_le .., .inr rfl⟩
  obtain ⟨decided, returned⟩ := moves_endWith
    (u := endCurrent (updSlot n (fun x => { x with attempts := x.attempts - 1 }) s)) q current call rfl ends
  simp only [callWithdrawn, current] at calls
  split at calls
  · exact decided _ _ calls
  · rename_i kept
    exact returned (by simpa using kept) (.inr (.inl le_rfl)) s.calls.backoff calls fun _ => .inl

theorem moves_attemptEnd (q : QueuesCoherent s) (won : callPhase s = some true) (own : Parcel) (r : ExchangeResult)
    (calls : t.calls = (attemptEnd own r s).calls) (ends : callPhase t = none) : Moves s t := by
  obtain ⟨n, current, -⟩ := q.current_some won
  have call (reason : Option Byte) (answer : List Byte) :
      SameCall s.calls.slots[n] { s.calls.slots[n] with reason := reason, answer := answer } :=
    ⟨rfl, rfl, rfl, rfl, rfl, rfl, rfl, le_rfl, .inr rfl⟩
  by_cases acked : ∃ bytes, r = .acked bytes
  · obtain ⟨bytes, rfl⟩ := acked
    rw [StrandBus.attemptEnd_acked current] at calls
    exact (moves_endWith q current (call none bytes) (by simp [StrandBus.endWith]) ends).1 _ _ calls
  · rw [StrandBus.attemptEnd_of_not_acked current own r fun bytes is => acked ⟨bytes, is⟩] at calls
    obtain ⟨decided, returned⟩ := moves_endWith (u := StrandBus.endWith n _ s) q current
      (call r.reason s.calls.slots[n].answer) rfl ends
    split at calls
    · exact decided _ _ calls
    · split at calls
      · exact decided _ _ calls
      · rename_i kept
        split at calls
        · rename_i within
          refine returned (by simpa using kept) (.inr (.inr within)) _ calls fun c runs => ?_
          by_cases here : c = s.calls.slots[n].cls
          · exact .inr here
          · rw [getElem_set_fin, if_neg here] at runs
            exact .inl runs
        · exact decided _ _ calls

/-! ## Reports by the owner of the parcel (R29) -/

theorem moves_reportLost (q : QueuesCoherent s) {o : Owner} {p : Parcel} (act : s.link.act = .contending o p)
    (calls : t.calls = (reportLost o s).calls) (ends : callPhase t = none) : Moves s t := by
  cases o with
  | call => exact moves_callLost q (by rw [callPhase, act]; rfl) calls ends
  | hold k => exact .of_same calls (by rw [ends, callPhase, act]; rfl)

theorem moves_reportBroken (q : QueuesCoherent s) {o : Owner} {p : Parcel} (act : s.link.act = .transmitting o p)
    (b : BrokenBy) (calls : t.calls = (reportBroken o p b s).calls) (ends : callPhase t = none) : Moves s t := by
  cases o with
  | call => exact moves_attemptEnd q (by rw [callPhase, act]; rfl) p _ calls ends
  | hold k => exact .of_same calls (by rw [ends, callPhase, act]; rfl)

theorem moves_reportSent (q : QueuesCoherent s) {o : Owner} {p : Parcel} (act : s.link.act = .transmitting o p)
    (calls : t.calls = (reportSent o p s).calls) (ends : callPhase t = none) : Moves s t := by
  cases o with
  | call => exact moves_attemptEnd q (by rw [callPhase, act]; rfl) p _ calls ends
  | hold k => exact .of_same (by rw [calls]; simp [reportSent]) (by rw [ends, callPhase, act]; rfl)

/-- An abandoned activity ends the report sequence of its own call (R22). -/
theorem moves_abandon (q : QueuesCoherent s) (calls : t.calls = (abandon s).calls) (ends : callPhase t = none) :
    Moves s t := by
  unfold abandon at calls
  split at calls
  · rename_i o p act
    cases o with
    | call => exact moves_callAbandoned q (by rw [callPhase, act]; rfl) calls ends
    | hold k => exact .of_same calls (by rw [ends, callPhase, act]; rfl)
  · rename_i o p act
    cases o with
    | call => exact moves_callWithdrawn q (by rw [callPhase, act]; rfl) calls ends
    | hold k => exact .of_same calls (by rw [ends, callPhase, act]; rfl)
  · rename_i p act
    exact moves_callWithdrawn q (by rw [callPhase, act]; rfl) calls ends
  · rename_i p act
    exact moves_callWithdrawn q (by rw [callPhase, act]; rfl) calls ends
  · rename_i noContending noTransmitting noAwaiting noWindow
    refine .of_same calls (ends.trans (Eq.symm ?_))
    unfold callPhase phase
    split <;> simp_all

/-! ## Selection (R49, R51, R52) -/

theorem startCheck_fails {o : CallOutcome} (check : s.startCheck n = some o) : o.successful = false := by
  simp only [State.startCheck] at check
  repeat' split at check
  all_goals cases check <;> rfl

theorem moves_failStart (q : QueuesCoherent s) (idle : callPhase s = none) (first : StrandBus.FirstCall s n)
    {o : CallOutcome} (check : s.startCheck n = some o) : Moves s (failStart n o s) := by
  have isOpen := (q.open_of_head first.head).1
  refine moves_decideOutcome_other q isOpen (by rw [q.current_none idle]; nofun) (startCheck_fails check) 0 ?_ ?_
  · simp [failStart]
  · simp [callPhase, failStart]

theorem moves_startCall (idle : callPhase s = none) (first : StrandBus.FirstCall s n) : Moves s (startCall n s) := by
  have able : s.eligible n = true := by
    obtain ⟨_, able⟩ | ⟨_, _, ⟨_, able⟩, _⟩ := first <;> exact able
  refine .single (.start n ?_ able idle ?_)
  · simp only [startCall, beginContention_frame]
    rfl
  · simp [callPhase, startCall, phase]

theorem moves_selectLoop (fuel : Nat) : ∀ {s : State}, QueuesCoherent s → callPhase s = none →
    Moves s (selectLoop fuel s) := by
  induction fuel with
  | zero => exact fun _ _ => .refl
  | succ fuel ih =>
    intro s q idle
    unfold selectLoop
    split
    · exact .of_same (by simp) (by rw [idle]; simp [callPhase, phase])
    · split
      · exact .refl
      · rename_i n call
        have first := (StrandBus.callCandidate_iff s n).mp call
        split
        · rename_i o check
          have failed := moves_failStart q idle first check
          exact failed.trans (ih (q.moves failed) (by simpa [callPhase, failStart] using idle))
        · exact moves_startCall idle first

end Sys2Proof.Calling
end

section
/-! Every row of the table as moves of the Call Engine. -/

namespace Sys2Proof.Calling

open Sys2Proof.Machine Sys2Proof.Safety Sys2Proof.Linkage

variable {s t : State} {n : SlotId}

/-! ## The end of an event -/

theorem moves_select (q : QueuesCoherent s) : Moves s (select s) := by
  unfold select
  split
  · rename_i free
    exact moves_selectLoop _ q (by rw [callPhase, free.1]; rfl)
  · exact .refl

theorem moves_endEvent (q : QueuesCoherent s) : Moves s (endEvent s) := by
  refine (moves_select q).trans (Moves.of_act ?_ ?_) <;> simp [endEvent, updateInt, updateIdle]

/-! ## Line events -/

theorem moves_onLeadMark : Moves s (onLeadMark s) := by
  unfold onLeadMark
  repeat' split
  all_goals refine .of_same (by simp) ?_
  all_goals simp [callPhase, phase, *]

theorem moves_onContentionWon (q : QueuesCoherent s) : Moves s (onContentionWon s) := by
  unfold onContentionWon
  split
  · rename_i o p act
    cases o with
    | call =>
      have contends : callPhase s = some false := by rw [callPhase, act]; rfl
      obtain ⟨n, current, -⟩ := q.current_some contends
      exact .single (.won n (by simp) current contends (by simp [callPhase, phase]))
    | hold k => exact .of_same (by simp) (by simp [callPhase, phase, act])
  · exact .refl

theorem moves_onArbitrationLoss (q : QueuesCoherent s) : Moves s (onArbitrationLoss s) := by
  unfold onArbitrationLoss
  split
  · rename_i o p act
    have counted : Move s (count .arbLosses s) := .of_same (by simp) (by simp [callPhase])
    exact .head counted (moves_reportLost (q.move counted) (by simpa using act) (by simp) (by simp [callPhase, phase]))
  · exact .refl

theorem moves_onBitClash (b : Nat) (q : QueuesCoherent s) : Moves s (onBitClash b s) := by
  unfold onBitClash
  split
  · rename_i o p act
    split
    · have counted : Move s (countFault (if o = .call ∧ inTagField b then nodeConflict s else s)) := by
        refine .of_same ?_ (congrArg phase ?_) <;> split <;> simp
      refine .head counted (moves_reportBroken (q.move counted) (o := o) (p := p) ?_ .bitClash (by simp)
        (by simp [callPhase, phase]))
      split <;> simpa using act
    · exact .refl
  · rename_i a act
    split
    · exact .of_same (by simp) (by simp [callPhase, phase, act])
    · exact .refl
  · exact .refl

theorem moves_onMarkFault (q : QueuesCoherent s) : Moves s (onMarkFault s) := by
  have marked : Move s (count .markFaults s) := .of_same (by simp) (by simp [callPhase])
  unfold onMarkFault
  split
  · rename_i o p act
    exact .head marked (moves_reportLost (q.move marked) (by simpa using act) (by simp) (by simp [callPhase, phase]))
  · rename_i o p act
    have counted : Move s (countFault (count .markFaults s)) := .of_same (by simp) (by simp [callPhase])
    exact .head counted (moves_reportBroken (q.move counted) (o := o) (p := p) (by simpa using act) .markFault (by simp)
      (by simp [callPhase, phase]))
  · rename_i a act
    exact .of_same (by simp) (by simp [callPhase, phase, act])
  · exact .refl

theorem moves_onSentCleanly (q : QueuesCoherent s) : Moves s (onSentCleanly s) := by
  unfold onSentCleanly
  split
  · rename_i o p act
    dsimp only
    split
    · rename_i own
      obtain ⟨rfl, -⟩ := own
      exact .of_same (by simp) (by simp [callPhase, phase, act])
    · have sent : Move s (sentOk s) := .of_same (by simp) (by simp [callPhase])
      exact .head sent (moves_reportSent (q.move sent) (o := o) (p := p) (by simpa using act) (by simp)
        (by simp [callPhase, phase]))
  · exact .refl

theorem moves_onAnswerSent : Moves s (onAnswerSent s) := by
  unfold onAnswerSent
  split
  · rename_i a act
    exact .of_same (by simp) (by simp [callPhase, phase, act])
  · exact .refl

theorem moves_dropAnswer : Moves s (dropAnswer s) := by
  unfold dropAnswer
  split
  · rename_i a act
    split
    · exact .of_same (by simp) (by simp [callPhase, phase, act])
    · exact .refl
  · exact .refl

theorem moves_onAnswerStart : Moves s (onAnswerStart s) := by
  unfold onAnswerStart
  split
  · rename_i a act
    split
    · exact moves_dropAnswer
    · exact .of_same (by simp) (by simp [callPhase, phase, act])
  · exact .refl

theorem moves_onWindowExpiry (q : QueuesCoherent s) : Moves s (onWindowExpiry s) := by
  unfold onWindowExpiry
  split
  · rename_i p act
    split
    · exact .refl
    · exact moves_attemptEnd q (by rw [callPhase, act]; rfl) p .noAnswer (by simp) (by simp [callPhase, phase])
  · exact .refl

theorem moves_onQuietGapEnd : Moves s (onQuietGapEnd s) := by
  unfold onQuietGapEnd
  split <;> first | exact .refl | (rename_i act; exact .of_same (by simp) (by simp [callPhase, phase, act]))

theorem moves_onLineHigh : Moves s (onLineHigh s) := by
  unfold onLineHigh
  split
  · rename_i act
    exact .of_same (by simp) (by simp [callPhase, phase, act])
  · exact .refl

theorem moves_onStrayPulse (b : Bool) (q : QueuesCoherent s) : Moves s (onStrayPulse b s) := by
  unfold onStrayPulse
  split
  · rename_i act
    exact .of_same (by simp) (by simp [callPhase, phase, act])
  · rename_i p act
    split
    · exact moves_attemptEnd q (by rw [callPhase, act]; rfl) p .noAnswer (by simp) (by simp [callPhase, phase])
    · exact .of_same (by simp) (by simp [callPhase])
  · rename_i a act
    exact .of_same (by simp) (by simp [callPhase, phase, act])
  · rename_i act
    exact .of_same (by simp) (by simp [callPhase, phase, act])
  · exact .of_same (by simp) (by simp [callPhase])
  · exact .refl

/-- The end of a reception leaves the calls as the end of its attempt does, and no own call under way (R34, R36). -/
theorem receptionEnds_calls (w : Option Parcel) (r : RxResult) (s : State) :
    (receptionEnds w r s).calls = (StrandBus.endAttempt w r (countReception r s)).calls ∧
      callPhase (receptionEnds w r s) = none := by
  rcases d : dispose w.isSome r (StrandBus.endAttempt w r (countReception r s)) with ⟨answer, u⟩
  have disposed : u.calls = (StrandBus.endAttempt w r (countReception r s)).calls := by
    have calls : (dispose w.isSome r (StrandBus.endAttempt w r (countReception r s))).2.calls =
      (StrandBus.endAttempt w r (countReception r s)).calls := by simp
    rwa [d] at calls
  rw [← disposed]
  cases answer with
  | none => rw [StrandBus.receptionEnds_unanswered d]; simp [callPhase, phase]
  | some a => rw [StrandBus.receptionEnds_answered d]; simp [callPhase, phase]

theorem moves_endWindow (q : QueuesCoherent s) (won : callPhase s = some true) (own : Parcel) (r : RxResult)
    (calls : t.calls = (endWindow own r s).calls) (ends : callPhase t = none) : Moves s t := by
  unfold endWindow at calls
  split at calls
  · exact moves_attemptEnd q won own _ calls ends
  · rename_i code _
    have faulted : Move s (raise .answerFault { s with link := { s.link with lastFault := code } }) :=
      .of_same rfl rfl
    exact .head faulted (moves_attemptEnd (q.move faulted) won own _ calls ends)

/-- The end of a reception ends the attempt whose window parcel it is (R34). -/
theorem moves_receptionEnds (q : QueuesCoherent s) {w : Option Parcel} (act : s.link.act = .listening w) (r : RxResult) :
    Moves s (receptionEnds w r s) := by
  obtain ⟨calls, ends⟩ := receptionEnds_calls w r s
  have counted : Move s (countReception r s) := .of_same (by simp) (by simp [callPhase])
  cases w with
  | none => exact .of_same (by rw [calls]; simp [StrandBus.endAttempt]) (by rw [ends, callPhase, act]; rfl)
  | some own =>
    have won : callPhase (countReception r s) = some true := by simp [callPhase, phase, act]
    exact .head counted (moves_endWindow (q.move counted) won own r calls ends)

theorem moves_line {c : Instr} {f : State → State} (is : lineEffect c = some f) (q : QueuesCoherent s) :
    Moves s (f s) := by
  cases c <;> cases is
  case leadMark => exact moves_onLeadMark
  case parcelReceived items => exact onParcel_induction items .refl fun w r act _ => moves_receptionEnds q act r
  case contentionWon => exact moves_onContentionWon q
  case arbitrationLoss => exact moves_onArbitrationLoss q
  case bitClash b => exact moves_onBitClash b q
  case markFault => exact moves_onMarkFault q
  case sentCleanly => exact moves_onSentCleanly q
  case answerSent => exact moves_onAnswerSent
  case answerStart => exact moves_onAnswerStart
  case answerWindowExpiry => exact moves_onWindowExpiry q
  case quietGapEnd => exact moves_onQuietGapEnd
  case lineHigh => exact moves_onLineHigh
  case strayPulse b => exact moves_onStrayPulse b q

/-! ## Expiries, and one HCLK edge to the next -/

theorem moves_effect (e : Expiry) (q : QueuesCoherent s) : Moves s (e.effect s) := by
  cases e with
  | hold c =>
    simp only [Expiry.effect, onHoldExpiry]
    split
    · exact .of_act rfl rfl
    · exact .refl
  | backoff c =>
    refine .single (.still _ rfl (fun d runs => ?_) rfl)
    rw [getElem_set_fin] at runs
    split at runs
    · cases runs
    · exact runs
  | refresh =>
    simp only [Expiry.effect, onRefreshExpiry]
    split
    · exact .of_act rfl rfl
    · exact .refl
  | lease =>
    simp only [Expiry.effect, onLeaseExpiry]
    split
    · exact .of_act rfl rfl
    · exact .refl
  | mirror k =>
    simp only [Expiry.effect, onMirrorExpiry]
    split
    · exact .of_act rfl rfl
    · exact .refl
  | stuck =>
    simp only [Expiry.effect, onStuckExpiry]
    split
    · exact moves_abandon q rfl rfl
    · exact .refl
  | dozeIdle =>
    simp only [Expiry.effect, onDozeIdleExpiry]
    split
    · exact .of_act rfl rfl
    · exact .refl

theorem moves_enterDoze : Moves s (enterDoze s) := .of_act (by simp) (by simp)

theorem moves_nextEdge : Moves s (nextEdge s) := by
  have frame := nextEdge_frame s
  have timers : (nextEdge s).calls.backoff = (advanceTimers (dropAnswer s)).calls.backoff := by simp [nextEdge]
  refine (moves_dropAnswer (s := s)).tail (.still _ (by simpa using frame.calls) (fun c runs => ?_) ?_)
  · rw [timers] at runs
    simpa [advanceTimers] using runs
  · rw [callPhase, frame.act, callPhase]

/-! ## Commands -/

theorem submitWake_calls (e : Edge) (s : State) : (submitWake e s).calls = s.calls := by
  unfold submitWake
  repeat' split
  all_goals simp

theorem advanceSel_calls (a : BitVec 24) (s : State) : (advanceSel a s).calls = s.calls := by
  unfold advanceSel
  split <;> rfl

theorem writeEntry_calls {table : BitVec 2} {i : Nat} (written : s.writeEntry table i = some t) :
    t.calls = s.calls := by
  unfold State.writeEntry at written
  repeat' split at written
  all_goals simp at written
  all_goals obtain ⟨_, -, rfl⟩ := written; rfl

theorem dest_of_submitCheck (passes : s.submitCheck = none) : s.host.dest ≠ 31 := by
  intro all
  unfold State.submitCheck at passes
  dsimp only at passes
  split at passes
  all_goals cases passes

theorem moves_cmdSubmit (e : Edge) : Moves s (cmdSubmit e s).2.2 := by
  unfold cmdSubmit
  split
  · exact .refl
  · rename_i passes
    split
    · exact .refl
    · rename_i n found
      have free : s.calls.slots[n].state = .free := by
        simpa using List.find?_some found
      refine .single (.submit n s.host.descriptor ?_ free rfl rfl (dest_of_submitCheck passes) ?_)
      · exact submitWake_calls e _
      · simp [okWith, callPhase]

theorem moves_cmdCancel (a : BitVec 24) (q : QueuesCoherent s) : Moves s (cmdCancel a s).2.2 := by
  unfold cmdCancel
  split
  · exact .refl
  · rename_i n _
    split
    · rename_i queued
      refine moves_decideOutcome_other q (open_of_queued queued) (fun current => ?_) rfl 0 rfl (by simp [okWith, callPhase])
      rw [q.current n current] at queued
      cases queued
    · rename_i active
      split
      · rename_i current
        exact .single (.mark n rfl current rfl)
      · rename_i other
        exact moves_decideOutcome_other q (open_of_active active) other rfl 0 rfl (by simp [okWith, callPhase])
    · exact .refl

theorem moves_cmdRetire (a : BitVec 24) : Moves s (cmdRetire a s).2.2 := by
  unfold cmdRetire
  split
  · exact .refl
  · split
    · rename_i harvested
      exact .single (.retire _ rfl harvested rfl)
    · exact .refl

theorem moves_cmdCqPop : Moves s (cmdCqPop s).2.2 := by
  unfold cmdCqPop
  split
  · exact .refl
  · rename_i r rest head
    exact .single (.harvest r rest rfl head rfl)

theorem getElem_ofFn_fin {α : Type} {k : Nat} (f : Fin k → α) (i : Fin k) : (Vector.ofFn f)[i] = f i := by simp

theorem moves_cmdTagReset (a : BitVec 24) : Moves s (cmdTagReset a s).2.2 := by
  unfold cmdTagReset
  dsimp only
  split
  · exact .refl
  · split
    · exact .refl
    · rename_i idle
      exact .single (.resetTags ((argLow a).extractLsb' 0 5) _ rfl (by simpa using idle)
        (fun i => getElem_ofFn_fin _ i) (by simp only [okWith, callPhase]))

/-- The calls that FLUSH_CLASS completes, one after another (R67). A FLUSHED call breaks no chain. -/
theorem moves_flush (l : List SlotId) : ∀ {s : State}, QueuesCoherent s → l.Nodup →
    (∀ n ∈ l, s.calls.slots[n].state = .queued) → Moves s (l.foldl (fun t n => decideOutcome n .flushed 0 t) s) := by
  induction l with
  | nil => exact fun _ _ _ => .refl
  | cons n l ih =>
    intro s q once queued
    obtain ⟨notIn, once⟩ := List.nodup_cons.mp once
    have first : Moves s (decideOutcome n .flushed 0 s) := by
      have isQueued := queued n List.mem_cons_self
      refine moves_decideOutcome_other (o := .flushed) q (open_of_queued isQueued) (fun current => ?_) rfl 0 rfl
        (by simp [callPhase])
      rw [q.current n current] at isQueued
      cases isQueued
    refine first.trans (ih (q.moves first) once fun m inRest => ?_)
    have other : m ≠ n := fun e => notIn (e ▸ inRest)
    rw [decideOutcome_alone _ _ _ _ (by simp [Slot.breaks]), StrandBus.closeCall_slots, if_neg other]
    exact queued m (List.mem_cons_of_mem _ inRest)

theorem moves_cmdFlushClass (a : BitVec 24) (q : QueuesCoherent s) : Moves s (cmdFlushClass a s).2.2 := by
  unfold cmdFlushClass
  split
  · exact .refl
  · exact moves_flush _ q ((q.once _).filter _) fun n inQueue => by simpa using (List.mem_filter.mp inQueue).2

theorem moves_cmdLinkRestart (q : QueuesCoherent s) : Moves s (cmdLinkRestart s).2.2 := by
  unfold cmdLinkRestart
  split
  · exact .refl
  · split
    · exact .refl
    · have released : Move s (releaseLine s) := .of_same (by simp) (by simp [callPhase])
      refine .head released (moves_abandon (q.move released) ?_ ?_)
      · simp [okWith]
      · simp [okWith, callPhase, phase]

/-- The commands that change nothing of the Call Engine. -/
def leavesCalls : Instr → Bool
  | .submit _ | .cancel _ | .retire _ | .cqPop | .flushClass _ | .tagReset _ | .linkRestart => false
  | _ => true

theorem command_calls {c : Instr} {code : BitVec 8} {f : State → CmdOut} (is : commandOf c = some (code, f))
    (leaves : leavesCalls c = true) (s : State) : (f s).2.2.calls = s.calls := by
  cases c <;> cases is
  case submit | cancel | retire | cqPop | flushClass | tagReset | linkRestart => cases leaves
  case inboxPop a => unfold cmdInboxPop; repeat' split
                     all_goals simp [refuse, setInbox]
  case inboxFlush a => unfold cmdInboxFlush; split <;> simp [refuse, okWith, setInbox]
  case tableRead a => unfold cmdTableRead; split <;> simp [refuse, okWith, advanceSel_calls]
  case tableWrite a =>
    unfold cmdTableWrite
    split
    · rfl
    · rename_i u written
      simp [okWith, advanceSel_calls, writeEntry_calls written]
  case publish a => unfold cmdPublish; split <;> simp [refuse]
  case publishForce a => unfold cmdPublishForce; split <;> simp [refuse, okWith]
  case withdraw a => unfold cmdWithdraw; split <;> simp [refuse, okWith]
  case absorb a => unfold cmdAbsorb; split <;> simp [refuse, okWith]
  case holdSend a => unfold cmdHoldSend; repeat' split
                     all_goals simp [refuse, okWith]
  case sessionDrop => unfold cmdSessionDrop; repeat' split
                      all_goals simp [refuse, okWith]
  case breakClaim => unfold cmdBreakClaim; split <;> simp [refuse, okWith]
  case doze => unfold cmdDoze; dsimp only; repeat' split
               all_goals simp [refuse, okWith]
  case wake e => unfold cmdWake; repeat' split
                 all_goals simp [refuse, okWith]
  case quarantineClear => unfold cmdQuarantineClear; split <;> simp [refuse, okWith]
  case countersClear => rfl

theorem moves_callCommand {c : Instr} {code : BitVec 8} {f : State → CmdOut} (is : commandOf c = some (code, f))
    (changes : leavesCalls c = false) (q : QueuesCoherent s) : Moves s (f s).2.2 := by
  cases c <;> cases is <;> try cases changes
  case submit e => exact moves_cmdSubmit e
  case cancel a => exact moves_cmdCancel a q
  case retire a => exact moves_cmdRetire a
  case cqPop => exact moves_cmdCqPop
  case flushClass a => exact moves_cmdFlushClass a q
  case tagReset a => exact moves_cmdTagReset a
  case linkRestart => exact moves_cmdLinkRestart q

theorem moves_command {c : Instr} {code : BitVec 8} {f : State → CmdOut} (is : commandOf c = some (code, f))
    (q : QueuesCoherent s) : Moves s (f s).2.2 := by
  cases leaves : leavesCalls c with
  | true =>
    refine .of_act (command_calls is leaves s) ?_
    by_cases clear : c = .quarantineClear
    · subst clear
      cases is
      unfold cmdQuarantineClear
      split <;> simp [refuse, okWith]
    · rw [(command_frame is s).link (fun e => by rw [e] at leaves; cases leaves) clear]
  | false => exact moves_callCommand is leaves q

theorem moves_finishCommand (code : BitVec 8) (out : CmdOut) : Moves out.2.2 (finishCommand code out) := by
  obtain ⟨-, link, -, -, -, -, calls, -⟩ := finishCommand_frame code out
  exact .of_act calls (by rw [link])

/-! ## What every step keeps -/

/-- An invariant of the Call Engine: every move keeps it, and the resets reach it. -/
structure CallInvariant (I : State → Prop) : Prop where
  coherent : ∀ {s}, I s → QueuesCoherent s
  move : ∀ {s t}, Move s t → I s → I t
  clear : ∀ {s}, s.calls = {} → callPhase s = none → I s

namespace CallInvariant

variable {I : State → Prop} (i : CallInvariant I)
include i

theorem moves (m : Moves s t) (h : I s) : I t := by
  induction m with
  | refl => exact h
  | tail _ one ih => exact i.move one ih

theorem host : HostKept I I where
  nothing := id
  command is h code := i.moves ((moves_command is (i.coherent h)).trans (moves_finishCommand code _)) h
  undefined {s} h code := i.moves (moves_finishCommand code (refuse .badCode s)) h
  softReset _ := i.clear rfl rfl
  enable {s} h f := by
    refine i.moves ?_ h
    unfold enableLink
    split
    · exact .of_act (by simp) (by simp)
    · split
      · exact .of_act (by simp) (by simp)
      · rename_i off _
        have act : s.link.act = .off := by simpa [State.linkEn] using off
        exact .of_same (by simp) (by simp [callPhase, phase, act])
  disable {s} h f := by
    unfold disableLink
    split
    · have released : Move s (releaseLine (writeFields f s)) := .of_same (by simp) (by simp [callPhase])
      exact i.moves (.head released (moves_abandon ((i.coherent h).move released) rfl rfl)) h
    · exact i.moves (.of_act (by simp) (by simp)) h
  clear h w keep := i.moves (.of_act (by simp) (by simp)) h
  read h := i.moves (.of_act (by simp) (by simp)) h
  register other h w :=
    i.moves (.of_act (writeReg_frame _ w _ other).calls (by rw [(writeReg_frame _ w _ other).link])) h

theorem kept : Kept I I where
  line is h := i.moves (moves_line is (i.coherent h)) h
  expiry {e s} h := i.moves (moves_effect e (i.coherent h)) h
  dozes h := i.moves moves_enterDoze h
  host act h := i.host.host act h
  ends h := i.moves (moves_endEvent (i.coherent h)) h
  drops h := i.moves moves_dropAnswer h
  marks {s} h := i.moves (Moves.of_act (s := s) rfl rfl) h
  clears {s} h := i.moves (Moves.of_act (s := s) rfl rfl) h
  cycles h := i.moves moves_nextEdge h
  pin h := i.moves (.of_act (by simp) (by simp)) h
  resets := i.clear rfl rfl
  waits {s rest} h := i.moves (Moves.of_act (s := s) rfl rfl) h
  reads {s} h := i.moves (Moves.of_act (s := s) rfl rfl) h

end CallInvariant

end Sys2Proof.Calling

namespace Sys2Proof.Safety

open Sys2Proof.Machine Sys2Proof.Calling

/-- With no call in any slot, all agree. -/
theorem queuesCoherent_clear {s : State} (calls : s.calls = {}) (idle : callPhase s = none) : QueuesCoherent s := by
  have slot (n : SlotId) : s.calls.slots[n] = {} := by rw [calls]; exact Vector.getElem_replicate ..
  have queue (c : Fin 4) : s.calls.queues[c] = [] := by rw [calls]; exact Vector.getElem_replicate ..
  have cq : s.calls.cq = [] := by rw [calls]
  have none : s.calls.current = none ∧ s.calls.successor = none := by rw [calls]; exact ⟨rfl, rfl⟩
  refine ⟨⟨fun n c => ?_, fun c => ?_, fun n active => ?_, fun n is => ?_⟩, fun n => ?_, ?_, fun n _ => slot n,
    fun n => ?_, fun n is => ?_, ?_⟩
  · rw [queue, slot]; simp [Slot.open]
  · rw [queue]; exact .nil
  · rw [slot] at active; cases active
  · rw [none.2] at is; cases is
  · rw [cq, slot]; simp
  · rw [cq]; exact .nil
  · rw [slot]; rfl
  · rw [none.1] at is; cases is
  · rw [none.1, ownCall_eq]; exact (congrArg Option.isSome idle).symm

/-- Settles O56: every row is a number of moves, and every move keeps the invariant. -/
theorem stepKeepsQueues : Obligations.StepKeepsQueues := fun _ _ run =>
  (CallInvariant.kept ⟨id, fun m q => q.move m, queuesCoherent_clear⟩).step run

end Sys2Proof.Safety
end

section
/-! At most one tag in use per destination, and its table entry, kept by every move (R50, R56, R57, R58). -/

namespace Sys2Proof.Safety

open Sys2Proof.Machine Sys2Proof.Calling

variable {s t : State} {n : SlotId}

/-! ## The tag table -/

theorem tagOf_congr {d : BitVec 5} (legal : d ≠ 31)
    (entry : ∀ i : Fin 31, i.val = d.toNat → t.calls.tags[i] = s.calls.tags[i]) : t.tagOf d = s.tagOf d := by
  have lt : d.toNat < 31 := by
    have ne : d.toNat ≠ 31 := fun e => legal (BitVec.eq_of_toNat_eq e)
    have := d.isLt
    omega
  simpa [State.tagOf, lt] using entry ⟨d.toNat, lt⟩ rfl

/-- One slot changes, and the table entries of the other calls with a tag in use stay. -/
theorem TagsCoherent.of_slot (h : TagsCoherent s) {y : Slot}
    (slot : ∀ m : SlotId, t.calls.slots[m] = if m = n then y else s.calls.slots[m])
    (zero : t.calls.tags[0] = 0)
    (entries : ∀ m : SlotId, m ≠ n → s.calls.slots[m].open = true → s.calls.slots[m].tag.isSome = true →
      t.tagOf s.calls.slots[m].dest = s.tagOf s.calls.slots[m].dest)
    (current : ∀ m : SlotId, m ≠ n → t.calls.current = some m → s.calls.current = some m)
    (unicast : y.tag.isSome = true → y.dest ≠ 0) (started : y.state = .queued → y.tag = none)
    (dest : y.open = true → y.dest ≠ 31)
    (entry : ∀ x, y.open = true → y.tag = some x → t.tagOf y.dest = x)
    (holds : y.open = true → y.tag.isSome = true ∨ (t.calls.current = some n ∧ y.dest ≠ 0) → ∀ m : SlotId, m ≠ n →
      s.calls.slots[m].open = true → y.dest = s.calls.slots[m].dest → s.calls.slots[m].tag = none)
    (yields : y.open = true → ∀ m : SlotId, m ≠ n → s.calls.current = some m → s.calls.slots[m].open = true →
      s.calls.slots[m].dest ≠ 0 → s.calls.slots[m].dest = y.dest → y.tag = none) : TagsCoherent t := by
  have self : t.calls.slots[n] = y := (slot n).trans (if_pos rfl)
  have other {m : SlotId} (ne : m ≠ n) : t.calls.slots[m] = s.calls.slots[m] := (slot m).trans (if_neg ne)
  refine ⟨zero, fun m isOpen => ?_, fun m tagged => ?_, fun m queued => ?_, fun m x isOpen tag => ?_,
    fun m k ne openM openK same claims => ?_⟩
  · by_cases here : m = n
    · subst here; rw [self] at isOpen ⊢; exact dest isOpen
    · rw [other here] at isOpen ⊢; exact h.dest m isOpen
  · by_cases here : m = n
    · subst here; rw [self] at tagged ⊢; exact unicast tagged
    · rw [other here] at tagged ⊢; exact h.unicast m tagged
  · by_cases here : m = n
    · subst here; rw [self] at queued ⊢; exact started queued
    · rw [other here] at queued ⊢; exact h.started m queued
  · by_cases here : m = n
    · subst here; rw [self] at isOpen tag ⊢; exact entry x isOpen tag
    · rw [other here] at isOpen tag ⊢
      rw [entries m here isOpen (by rw [tag]; rfl)]
      exact h.entry m x isOpen tag
  · by_cases hereM : m = n
    · subst hereM
      have hereK : k ≠ m := ne.symm
      rw [self] at openM same claims
      rw [other hereK] at openK same ⊢
      exact holds openM claims k hereK openK same
    · rw [other hereM] at openM same claims
      by_cases hereK : k = n
      · subst hereK
        rw [self] at openK same ⊢
        obtain tagged | ⟨is, nonzero⟩ := claims
        · by_contra both
          rw [holds openK (.inl (Option.isSome_iff_ne_none.mpr both)) m hereM openM same.symm] at tagged
          cases tagged
        · exact yields openK m hereM (current m hereM is) openM nonzero same
      · rw [other hereK] at openK same ⊢
        exact h.interlock m k ne openM openK same (claims.imp_right (And.imp_left (current m hereM)))

/-- A call that keeps its state, its destination and its tag, with the same table. -/
theorem TagsCoherent.of_call (h : TagsCoherent s) {y : Slot}
    (slot : ∀ m : SlotId, t.calls.slots[m] = if m = n then y else s.calls.slots[m])
    (state : y.state = s.calls.slots[n].state) (dest : y.dest = s.calls.slots[n].dest)
    (tag : y.tag = s.calls.slots[n].tag) (tags : t.calls.tags = s.calls.tags)
    (current : ∀ m : SlotId, t.calls.current = some m → s.calls.current = some m) : TagsCoherent t := by
  have tagOf (d : BitVec 5) : t.tagOf d = s.tagOf d := by rw [State.tagOf, State.tagOf, tags]
  have isOpen : y.open = s.calls.slots[n].open := open_congr state
  refine h.of_slot slot (by rw [tags]; exact h.zero) (fun _ _ _ _ => tagOf _) (fun m _ => current m) ?_ ?_ ?_ ?_ ?_ ?_
  · rw [tag, dest]; exact h.unicast n
  · rw [state, tag]; exact h.started n
  · rw [isOpen, dest]; exact h.dest n
  · rw [isOpen, tag, dest, tagOf]; exact fun x => h.entry n x
  · rw [isOpen, tag, dest]
    exact fun openN claims m ne openM same =>
      h.interlock n m ne.symm openN openM same (claims.imp_right (And.imp_left (current n)))
  · rw [isOpen, tag, dest]
    exact fun openN m ne is openM nonzero same => h.interlock m n ne openM openN same (.inr ⟨is, nonzero⟩)

/-- A call that is over, and has no say in the tags of others. -/
theorem TagsCoherent.of_shut (h : TagsCoherent s) {y : Slot}
    (slot : ∀ m : SlotId, t.calls.slots[m] = if m = n then y else s.calls.slots[m]) (shut : y.open = false)
    (zero : t.calls.tags[0] = 0)
    (entries : ∀ m : SlotId, m ≠ n → s.calls.slots[m].open = true → s.calls.slots[m].tag.isSome = true →
      t.tagOf s.calls.slots[m].dest = s.tagOf s.calls.slots[m].dest)
    (current : ∀ m : SlotId, t.calls.current = some m → s.calls.current = some m)
    (unicast : y.tag.isSome = true → y.dest ≠ 0) : TagsCoherent t := by
  have never {p : Prop} (isOpen : y.open = true) : p := by rw [shut] at isOpen; cases isOpen
  exact h.of_slot slot zero entries (fun m _ => current m) unicast (fun queued => never (open_of_queued queued))
    never (fun _ => never) never never

/-! ## Moves -/

/-- A final outcome advances the tag of its own destination, which no other call has in use (R56, R57). -/
theorem TagsCoherent.closed (h : TagsCoherent s) {y : Slot} {o : CallOutcome} (c : Closed s t n y o)
    (call : SameCall s.calls.slots[n] y) (isOpen : s.calls.slots[n].open = true) : TagsCoherent t := by
  refine h.of_shut c.slot rfl ?_ (fun m ne openM tagged => ?_) (fun m is => ?_) ?_
  · exact (c.tag 0).trans ((if_neg fun advances => advances.2.2 rfl).trans h.zero)
  · refine tagOf_congr (h.dest m openM) fun i is => ?_
    rw [c.tag, if_neg]
    rintro ⟨tag, dest, -⟩
    have same : s.calls.slots[n].dest = s.calls.slots[m].dest := BitVec.eq_of_toNat_eq (dest.trans is)
    rw [h.interlock n m ne.symm isOpen openM same (.inl tag)] at tagged
    cases tagged
  · rw [c.current] at is
    split at is
    · cases is
    · exact is
  · change y.tag.isSome = true → y.dest ≠ 0
    rw [call.tag, call.dest]
    exact h.unicast n

/-- TAG_RESET is refused while a call concerned has a tag in use (R58). -/
theorem TagsCoherent.reset (h : TagsCoherent s) {d : BitVec 5} {tags : Vector (BitVec 4) 31}
    (calls : t.calls = { s.calls with tags := tags }) (idle : s.tagBusy d = false)
    (entries : ∀ i : Fin 31, tags[i] = if d = 0 ∨ i.val = d.toNat then 0 else s.calls.tags[i]) : TagsCoherent t := by
  have spared (m : SlotId) (isOpen : s.calls.slots[m].open = true) (tagged : s.calls.slots[m].tag.isSome = true) :
      d ≠ 0 ∧ s.calls.slots[m].dest ≠ d := by
    simp only [State.tagBusy, Bool.or_eq_false_iff, List.any_eq_false] at idle
    have := idle.2 s.calls.slots[m] (by simp)
    simpa [-Fin.getElem_fin, isOpen, tagged] using this
  have slots : t.calls.slots = s.calls.slots := by rw [calls]
  have current : t.calls.current = s.calls.current := by rw [calls]
  have table (i : Fin 31) : t.calls.tags[i] = if d = 0 ∨ i.val = d.toNat then 0 else s.calls.tags[i] := by
    rw [calls]; exact entries i
  refine ⟨?_, by simpa only [slots] using h.dest, by simpa only [slots] using h.unicast,
    by simpa only [slots] using h.started, ?_, by simpa only [slots, current] using h.interlock⟩
  · refine (table 0).trans ?_
    split
    · rfl
    · exact h.zero
  · simp only [slots]
    intro m x isOpen tag
    obtain ⟨single, elsewhere⟩ := spared m isOpen (by rw [tag]; rfl)
    refine (tagOf_congr (h.dest m isOpen) fun i is => ?_).trans (h.entry m x isOpen tag)
    rw [table, if_neg]
    rintro (all | here)
    · exact single all
    · exact elsewhere (BitVec.eq_of_toNat_eq (is.symm.trans here))

/-- The lead mark of an eligible call: no other call to its destination has a tag in use, unless it has one itself (R50). -/
theorem TagsCoherent.started_call (h : TagsCoherent s) (q : QueuesCoherent s)
    (calls : t.calls = { s.calls with
      slots := s.calls.slots.set n { s.calls.slots[n] with state := .active }, current := some n })
    (able : s.eligible n = true) (idle : callPhase s = none) : TagsCoherent t := by
  obtain ⟨head, -, alone⟩ := eligible_spec able
  have isOpen := (q.open_of_head head).1
  have tags : t.calls.tags = s.calls.tags := by rw [calls]
  have tagOf (d : BitVec 5) : t.tagOf d = s.tagOf d := by rw [State.tagOf, State.tagOf, tags]
  have nobody := q.current_none idle
  refine h.of_slot (slot_of_set calls rfl) (by rw [tags]; exact h.zero) (fun _ _ _ _ => tagOf _) (fun m ne is => ?_)
    (h.unicast n) nofun (fun _ => h.dest n isOpen) (fun x _ tag => (tagOf _).trans (h.entry n x isOpen tag))
    (fun _ claims m ne openM same => ?_) (fun _ m ne is => ?_)
  · rw [calls] at is
    exact absurd (Option.some.inj is).symm ne
  · by_cases tagged : s.calls.slots[n].tag = none
    · have unicast : s.calls.slots[n].dest ≠ 0 := by
        obtain tag | ⟨-, unicast⟩ := claims
        · exact h.unicast n tag
        · exact unicast
      exact interlocked_false.mp (alone unicast tagged) m ne openM same.symm
    · exact h.interlock n m ne.symm isOpen openM same (.inl (Option.isSome_iff_ne_none.mpr tagged))
  · rw [nobody] at is; cases is

/-- Contention won gives a unicast call a tag: the table entry of its destination (R57). -/
theorem TagsCoherent.won (h : TagsCoherent s) (q : QueuesCoherent s) (calls : t.calls = (callWon s).calls)
    (current : s.calls.current = some n) : TagsCoherent t := by
  have isOpen := open_of_active (q.current n current)
  rw [callWon_calls current] at calls
  have tags : t.calls.tags = s.calls.tags := by rw [calls]
  have tagOf (d : BitVec 5) : t.tagOf d = s.tagOf d := by rw [State.tagOf, State.tagOf, tags]
  have still : t.calls.current = some n := by rw [calls]; exact current
  refine h.of_slot (slot_of_set calls rfl) (by rw [tags]; exact h.zero) (fun _ _ _ _ => tagOf _) (fun m _ is => ?_)
    (fun tagged => ?_) (fun queued => ?_) (fun _ => h.dest n isOpen) (fun x _ tag => (tagOf _).trans ?_)
    (fun _ claims m ne openM same => ?_) (fun _ m ne is => ?_)
  · rwa [calls] at is
  · intro broadcast
    dsimp only at tagged broadcast
    rw [if_pos broadcast] at tagged
    cases tagged
  · rw [q.current n current] at queued; cases queued
  · dsimp only at tag
    split at tag
    · cases tag
    · cases had : s.calls.slots[n].tag with
      | none => rw [had] at tag; exact Option.some.inj tag
      | some x' =>
        rw [had] at tag
        obtain rfl : x' = x := Option.some.inj tag
        exact h.entry n x' isOpen had
  · refine h.interlock n m ne.symm isOpen openM same (.inr ⟨current, ?_⟩)
    obtain tag | ⟨-, unicast⟩ := claims
    · intro broadcast
      dsimp only at tag
      rw [if_pos broadcast] at tag
      cases tag
    · exact unicast
  · exact absurd (Option.some.inj (is.symm.trans current)) ne

/-- Every move keeps the tags in use with their destinations. -/
theorem TagsCoherent.move (h : TagsCoherent s) (q : QueuesCoherent s) (m : Move s t) : TagsCoherent t := by
  cases m with
  | still backoff calls runs same =>
    exact h.of_call (n := 0) (slot_of_set calls (by simp)) rfl rfl rfl (by rw [calls]) fun m is => by rwa [calls] at is
  | resetTags d tags calls idle entries same => exact h.reset calls idle entries
  | submit n x calls free queued fresh dest same =>
    have tags : t.calls.tags = s.calls.tags := by rw [calls]
    have tagOf (d : BitVec 5) : t.tagOf d = s.tagOf d := by rw [State.tagOf, State.tagOf, tags]
    have untagged : x.tag = none := by rw [fresh]
    have current : t.calls.current = s.calls.current := by rw [calls]
    refine h.of_slot (slot_of_set calls rfl) (by rw [tags]; exact h.zero) (fun _ _ _ _ => tagOf _)
      (fun m _ is => by rwa [current] at is) (fun tagged => ?_) (fun _ => untagged) (fun _ => dest) (fun y _ tag => ?_)
      (fun _ claims => ?_) (fun _ _ _ _ _ _ _ => untagged)
    · rw [untagged] at tagged; cases tagged
    · rw [untagged] at tag; cases tag
    · obtain tagged | ⟨is, -⟩ := claims
      · rw [untagged] at tagged; cases tagged
      · have active := q.current n (current ▸ is)
        rw [free] at active
        cases active
  | harvest r rest calls head same =>
    have tags : t.calls.tags = s.calls.tags := by rw [calls]
    exact h.of_shut (slot_of_set calls rfl) rfl (by rw [tags]; exact h.zero)
      (fun _ _ _ _ => by rw [State.tagOf, State.tagOf, tags]) (fun m is => by rwa [calls] at is) (h.unicast r.slot)
  | retire n calls harvested same =>
    have tags : t.calls.tags = s.calls.tags := by rw [calls]
    exact h.of_shut (slot_of_set calls rfl) rfl (by rw [tags]; exact h.zero)
      (fun _ _ _ _ => by rw [State.tagOf, State.tagOf, tags]) (fun m is => by rwa [calls] at is) nofun
  | mark n calls current same =>
    exact h.of_call (slot_of_set calls rfl) rfl rfl rfl (by rw [calls]) fun m is => by rwa [calls] at is
  | start n calls able idle contends => exact h.started_call q calls able idle
  | won n calls current contended sends => exact h.won q calls current
  | returns n y backoff calls call kept attempts runs current ends =>
    exact h.of_call (slot_of_set calls rfl) call.state call.dest call.tag (by rw [calls]) fun m is => by
      rw [calls] at is; cases is
  | closes n y o source u before calls call isOpen active ends =>
    exact h.closed (closed_of_closeCall before calls call) call isOpen

theorem tagsCoherent_clear (calls : s.calls = {}) : TagsCoherent s := by
  have slot (n : SlotId) : s.calls.slots[n] = {} := by rw [calls]; exact Vector.getElem_replicate ..
  have current : s.calls.current = none := by rw [calls]
  have never {p : Prop} (n : SlotId) (isOpen : s.calls.slots[n].open = true) : p := by
    rw [slot] at isOpen; cases isOpen
  refine ⟨by rw [calls]; exact Vector.getElem_replicate .., fun n => never n, fun n tagged => ?_, fun n queued => ?_,
    fun n _ => never n, fun n _ _ => never n⟩
  · rw [slot] at tagged; cases tagged
  · rw [slot] at queued; cases queued

end Sys2Proof.Safety
end

section
/-! Attempts, losses, backoff timers and pending cancellations, kept by every move (R52 to R55, R65). -/

namespace Sys2Proof.Safety

open Sys2Proof.Machine Sys2Proof.Calling

variable {s t : State} {n : SlotId}

theorem wonCall_false_iff (s : State) : wonCall s.link.act = false ↔ callPhase s ≠ some true := by
  rw [← Bool.not_eq_true, wonCall_iff, callPhase]

/-- A call whose failure a backoff timer of its class waits for: ACTIVE, and not current (R54). -/
def Waits (s : State) (c : Fin 4) (n : SlotId) : Prop :=
  s.calls.slots[n].state = .active ∧ s.calls.slots[n].cls = c ∧ s.calls.current ≠ some n

/-- One slot changes; of the other calls, the current one stays so in its phase. -/
theorem AttemptsBounded.of_slot (h : AttemptsBounded s) {y : Slot}
    (slot : ∀ m : SlotId, t.calls.slots[m] = if m = n then y else s.calls.slots[m])
    (current : ∀ m : SlotId, m ≠ n → (t.calls.current = some m ↔ s.calls.current = some m))
    (phase : ∀ m : SlotId, m ≠ n → s.calls.current = some m → callPhase t = callPhase s)
    (attempts : y.attempts ≤ y.budget.toNat + 1)
    (waiting : y.open = true → t.calls.current ≠ some n ∨ callPhase t ≠ some true → y.attempts ≤ y.budget.toNat)
    (won : t.calls.current = some n → callPhase t = some true → 1 ≤ y.attempts)
    (losses : y.losses ≤ 255) (cancel : y.cancelPending = true → t.calls.current = some n)
    (backoff : ∀ c : Fin 4, t.calls.backoff[c].isSome = true → ∃ m, Waits t c m) : AttemptsBounded t := by
  have self : t.calls.slots[n] = y := (slot n).trans (if_pos rfl)
  have other {m : SlotId} (ne : m ≠ n) : t.calls.slots[m] = s.calls.slots[m] := (slot m).trans (if_neg ne)
  have each {p : SlotId → Prop} (here : p n) (there : ∀ m, m ≠ n → p m) (m : SlotId) : p m := by
    by_cases e : m = n
    · exact e ▸ here
    · exact there m e
  refine ⟨each ?_ fun m ne => ?_, each ?_ fun m ne => ?_, each ?_ fun m ne => ?_, each ?_ fun m ne => ?_,
    each ?_ fun m ne => ?_, backoff⟩
  · rw [self]; exact attempts
  · rw [other ne]; exact h.attempts m
  · rw [self, wonCall_false_iff]; exact waiting
  · rw [other ne, wonCall_false_iff]
    intro isOpen waits
    refine h.waiting m isOpen ?_
    rw [wonCall_false_iff]
    by_cases is : s.calls.current = some m
    · rw [← phase m ne is]
      exact waits.imp_left fun not => absurd ((current m ne).mpr is) not
    · exact .inl is
  · rw [self, wonCall_iff]; exact won
  · rw [other ne, wonCall_iff]
    intro is sends
    have was := (current m ne).mp is
    exact h.won m was ((wonCall_iff _).mpr ((phase m ne was).symm.trans sends))
  · rw [self]; exact losses
  · rw [other ne]; exact h.losses m
  · rw [self]; exact cancel
  · rw [other ne]
    exact fun pending => (current m ne).mpr (h.cancel m pending)

/-- The call for which a backoff timer runs waits on, where it is not the one that changes. -/
theorem waits_of_slot {c : Fin 4} {m : SlotId} (waits : Waits s c m) (slot : t.calls.slots[m] = s.calls.slots[m])
    (current : t.calls.current = some m → s.calls.current = some m) : Waits t c m := by
  obtain ⟨active, cls, notCurrent⟩ := waits
  exact ⟨by rw [slot]; exact active, by rw [slot]; exact cls, fun is => notCurrent (current is)⟩

/-- A call that is over, or has not begun, changes with no say in the others. -/
theorem AttemptsBounded.of_idle (h : AttemptsBounded s) {y : Slot}
    (slot : ∀ m : SlotId, t.calls.slots[m] = if m = n then y else s.calls.slots[m])
    (current : t.calls.current = s.calls.current) (same : callPhase t = callPhase s)
    (backoff : t.calls.backoff = s.calls.backoff) (notActive : s.calls.slots[n].state ≠ .active)
    (notCurrent : s.calls.current ≠ some n) (kept : y.cancelPending = false)
    (attempts : y.attempts ≤ s.calls.slots[n].attempts ∧ y.budget = s.calls.slots[n].budget ∨ y.attempts = 0)
    (waiting : y.open = true → y.attempts = 0)
    (losses : y.losses = s.calls.slots[n].losses ∨ y.losses = 0) : AttemptsBounded t := by
  refine h.of_slot slot (fun m _ => by rw [current]) (fun _ _ _ => same) ?_
    (fun isOpen _ => by rw [waiting isOpen]; exact Nat.zero_le _) (fun is => absurd (current ▸ is) notCurrent) ?_
    (fun pending => by rw [kept] at pending; cases pending) fun c runs => ?_
  · obtain ⟨fewer, budget⟩ | none := attempts
    · rw [budget]; exact fewer.trans (h.attempts n)
    · rw [none]; exact Nat.zero_le _
  · obtain same | none := losses
    · rw [same]; exact h.losses n
    · rw [none]; exact Nat.zero_le _
  · rw [backoff] at runs
    obtain ⟨m, waits⟩ := h.backoff c runs
    have ne : m ≠ n := fun e => notActive (e ▸ waits.1)
    exact ⟨m, waits_of_slot waits ((slot m).trans (if_neg ne)) fun is => current ▸ is⟩

/-- The slot of the current call changes, and it stays current. -/
theorem AttemptsBounded.of_current (h : AttemptsBounded s) {y : Slot}
    (slot : ∀ m : SlotId, t.calls.slots[m] = if m = n then y else s.calls.slots[m])
    (current : s.calls.current = some n) (still : t.calls.current = s.calls.current)
    (backoff : t.calls.backoff = s.calls.backoff) (attempts : y.attempts ≤ y.budget.toNat + 1)
    (waiting : y.open = true → callPhase t ≠ some true → y.attempts ≤ y.budget.toNat)
    (won : callPhase t = some true → 1 ≤ y.attempts) (losses : y.losses ≤ 255) : AttemptsBounded t := by
  have is : t.calls.current = some n := still.trans current
  refine h.of_slot slot (fun m _ => by rw [still]) (fun m ne other => ?_) attempts
    (fun isOpen waits => waiting isOpen (waits.resolve_left fun not => not is)) (fun _ => won) losses (fun _ => is)
    fun c runs => ?_
  · exact absurd (Option.some.inj (current.symm.trans other)).symm ne
  · rw [backoff] at runs
    obtain ⟨m, waits⟩ := h.backoff c runs
    have ne : m ≠ n := fun e => waits.2.2 (e ▸ current)
    exact ⟨m, waits_of_slot waits ((slot m).trans (if_neg ne)) fun is => still ▸ is⟩

/-- Timers that run on, expire or stop, and tags. -/
theorem AttemptsBounded.of_fields (h : AttemptsBounded s) (slots : t.calls.slots = s.calls.slots)
    (current : t.calls.current = s.calls.current) (same : callPhase t = callPhase s)
    (runs : ∀ c : Fin 4, t.calls.backoff[c].isSome = true → s.calls.backoff[c].isSome = true) : AttemptsBounded t where
  attempts := by simpa only [slots] using h.attempts
  waiting := by simpa only [slots, current, wonCall_false_iff, same] using h.waiting
  won := by
    have same : phase t.link.act = phase s.link.act := same
    simpa only [slots, current, wonCall_iff, same] using h.won
  losses := by simpa only [slots] using h.losses
  cancel := by simpa only [slots, current] using h.cancel
  backoff c running := by simpa only [slots, current] using h.backoff c (runs c running)

/-- A final outcome ends the attempts of its call, and the backoff timer of an ACTIVE call's class (R60). -/
theorem AttemptsBounded.closed (h : AttemptsBounded s) {y : Slot} {o : CallOutcome}
    (c : Closed s t n y o) (call : SameCall s.calls.slots[n] y)
    (ends : callPhase t = if s.calls.current = some n then none else callPhase s) : AttemptsBounded t := by
  have current (m : SlotId) (ne : m ≠ n) : t.calls.current = some m ↔ s.calls.current = some m := by
    rw [c.current]
    split
    · rename_i is
      rw [is]
      exact iff_of_false nofun fun e => ne (Option.some.inj e).symm
    · rfl
  have notCurrent : t.calls.current ≠ some n := by
    rw [c.current]
    split
    · nofun
    · assumption
  refine h.of_slot c.slot current (fun m ne is => ?_) ?_ nofun (fun is => absurd is notCurrent) ?_ nofun fun d runs => ?_
  · rw [ends, if_neg]
    rw [is]
    exact fun e => ne (Option.some.inj e)
  · change y.attempts ≤ y.budget.toNat + 1
    rw [call.budget]
    exact call.attempts.trans (h.attempts n)
  · change y.losses ≤ 255
    obtain bounded | same := call.losses
    · exact bounded
    · rw [same]; exact h.losses n
  · rw [c.backoff] at runs
    split at runs
    · cases runs
    · rename_i stays
      obtain ⟨m, waits⟩ := h.backoff d runs
      have ne : m ≠ n := by
        rintro rfl
        exact stays ⟨waits.1, waits.2.1⟩
      exact ⟨m, waits_of_slot waits ((c.slot m).trans (if_neg ne)) (current m ne).mp⟩

/-- An eligible call starts with an attempt left, and with no backoff timer of its class running (R50). -/
theorem AttemptsBounded.started (h : AttemptsBounded s) (q : QueuesCoherent s)
    (calls : t.calls = { s.calls with
      slots := s.calls.slots.set n { s.calls.slots[n] with state := .active }, current := some n })
    (able : s.eligible n = true) (idle : callPhase s = none) (contends : callPhase t = some false) :
    AttemptsBounded t := by
  obtain ⟨head, quiet, -⟩ := eligible_spec able
  have isOpen := (q.open_of_head head).1
  have nobody := q.current_none idle
  have current : t.calls.current = some n := by rw [calls]
  refine h.of_slot (slot_of_set calls rfl) (fun m ne => ?_) (fun m _ is => by rw [nobody] at is; cases is)
    (h.attempts n) (fun _ _ => h.waiting n isOpen (.inl (by rw [nobody]; nofun)))
    (fun _ sends => by rw [contends] at sends; cases sends) (h.losses n) (fun _ => current) fun c runs => ?_
  · rw [current, nobody]
    exact iff_of_false (fun e => ne (Option.some.inj e).symm) nofun
  · have was : s.calls.backoff[c].isSome = true := by rwa [calls] at runs
    obtain ⟨m, waits⟩ := h.backoff c was
    have ne : m ≠ n := by
      rintro rfl
      obtain ⟨-, cls, -⟩ := waits
      simp only [cls] at quiet
      rw [quiet] at was
      cases was
    refine ⟨m, waits_of_slot waits ((slot_of_set calls rfl m).trans (if_neg ne)) fun is => ?_⟩
    exact absurd (Option.some.inj (current.symm.trans is)).symm ne

/-- The report sequence of the current call ends within its budget (R52 to R55). -/
theorem AttemptsBounded.returned (h : AttemptsBounded s) (q : QueuesCoherent s) {y : Slot}
    {backoff : Vector (Option Timer) 4}
    (calls : t.calls = { s.calls with slots := s.calls.slots.set n y, current := none, backoff := backoff })
    (call : SameCall s.calls.slots[n] y) (kept : y.cancelPending = false)
    (attempts : callPhase s = some false ∨ y.attempts ≤ s.calls.slots[n].attempts - 1 ∨ y.attempts ≤ y.budget.toNat)
    (runs : ∀ c : Fin 4, backoff[c].isSome = true → s.calls.backoff[c].isSome = true ∨ c = y.cls)
    (current : s.calls.current = some n) : AttemptsBounded t := by
  have active := q.current n current
  have nobody : t.calls.current = none := by rw [calls]
  have slot := slot_of_set (n := n) calls rfl
  have within : y.attempts ≤ y.budget.toNat := by
    have most := h.attempts n
    have fewer := call.attempts
    rw [call.budget]
    obtain contends | withdrawn | left := attempts
    · have waiting := h.waiting n (open_of_active active)
        (.inr ((wonCall_false_iff s).mpr (by rw [contends]; nofun)))
      exact fewer.trans waiting
    · omega
    · rwa [call.budget] at left
  refine h.of_slot slot (fun m ne => ?_) (fun m ne is => ?_) (Nat.le_succ_of_le within) (fun _ _ => within)
    (fun is => ?_) ?_ (fun pending => by rw [kept] at pending; cases pending) fun c running => ?_
  · rw [nobody, current]
    exact iff_of_false nofun fun e => ne (Option.some.inj e).symm
  · exact absurd (Option.some.inj (current.symm.trans is)).symm ne
  · rw [nobody] at is; cases is
  · obtain bounded | same := call.losses
    · exact bounded
    · rw [same]; exact h.losses n
  · have was : backoff[c].isSome = true := by rwa [calls] at running
    obtain before | here := runs c was
    · obtain ⟨m, waits⟩ := h.backoff c before
      have ne : m ≠ n := fun e => waits.2.2 (e ▸ current)
      exact ⟨m, waits_of_slot waits ((slot m).trans (if_neg ne)) fun is => by rw [nobody] at is; cases is⟩
    · have self : t.calls.slots[n] = y := (slot n).trans (if_pos rfl)
      refine ⟨n, ?_, ?_, by rw [nobody]; nofun⟩
      · rw [self, call.state]; exact active
      · rw [self, here]

/-- Every move keeps attempts, losses, backoff timers and pending cancellations in bounds. -/
theorem AttemptsBounded.move (h : AttemptsBounded s) (q : QueuesCoherent s) (m : Move s t) : AttemptsBounded t := by
  cases m with
  | still backoff calls runs same =>
    exact h.of_fields (by rw [calls]) (by rw [calls]) same fun c running => runs c (by rwa [calls] at running)
  | resetTags d tags calls idle entries same =>
    exact h.of_fields (by rw [calls]) (by rw [calls]) same fun c running => by rwa [calls] at running
  | submit n x calls free queued fresh dest same =>
    have notActive : s.calls.slots[n].state ≠ .active := by rw [free]; nofun
    exact h.of_idle (slot_of_set calls rfl) (by rw [calls]) same (by rw [calls]) notActive
      (fun is => notActive (q.current n is)) (by rw [fresh]) (.inr (by rw [fresh])) (fun _ => by rw [fresh])
      (.inr (by rw [fresh]))
  | harvest r rest calls head same =>
    have done : s.calls.slots[r.slot].state = .done := (q.records r.slot).mp (by simp [head])
    have notActive : s.calls.slots[r.slot].state ≠ .active := by rw [done]; nofun
    have notCurrent : s.calls.current ≠ some r.slot := fun is => notActive (q.current r.slot is)
    exact h.of_idle (slot_of_set calls rfl) (by rw [calls]) same (by rw [calls]) notActive notCurrent
      (Bool.not_eq_true _ ▸ fun pending => notCurrent (h.cancel r.slot pending)) (.inl ⟨le_rfl, rfl⟩) nofun (.inl rfl)
  | retire n calls harvested same =>
    have notActive : s.calls.slots[n].state ≠ .active := by rw [harvested]; nofun
    exact h.of_idle (slot_of_set calls rfl) (by rw [calls]) same (by rw [calls]) notActive
      (fun is => notActive (q.current n is)) rfl (.inr rfl) nofun (.inr rfl)
  | mark n calls current same =>
    refine h.of_current (slot_of_set calls rfl) current (by rw [calls]) (by rw [calls]) (h.attempts n)
      (fun isOpen waits => ?_) (fun sends => ?_) (h.losses n)
    · exact h.waiting n isOpen (.inr ((wonCall_false_iff s).mpr (same ▸ waits)))
    · exact h.won n current ((wonCall_iff _).mpr (same.symm.trans sends))
  | start n calls able idle contends => exact h.started q calls able idle contends
  | won n calls current contended sends =>
    rw [callWon_calls current] at calls
    have isOpen := open_of_active (q.current n current)
    have left := h.waiting n isOpen (.inr ((wonCall_false_iff s).mpr (by rw [contended]; nofun)))
    exact h.of_current (slot_of_set calls rfl) current (by rw [calls]) (by rw [calls]) (Nat.succ_le_succ left)
      (fun _ waits => absurd sends waits) (fun _ => Nat.succ_le_succ (Nat.zero_le _)) (h.losses n)
  | returns n y backoff calls call kept attempts runs current ends =>
    exact h.returned q calls call kept attempts runs current
  | closes n y o source u before calls call isOpen active ends =>
    exact h.closed (closed_of_closeCall before calls call) call ends

theorem attemptsBounded_clear (calls : s.calls = {}) : AttemptsBounded s := by
  have slot (n : SlotId) : s.calls.slots[n] = {} := by rw [calls]; exact Vector.getElem_replicate ..
  have current : s.calls.current = none := by rw [calls]
  have backoff (c : Fin 4) : s.calls.backoff[c] = none := by rw [calls]; exact Vector.getElem_replicate ..
  refine ⟨fun n => ?_, fun n _ _ => ?_, fun n is => ?_, fun n => ?_, fun n pending => ?_, fun c runs => ?_⟩
  · rw [slot]; exact Nat.zero_le _
  · rw [slot]; exact Nat.zero_le _
  · rw [current] at is; cases is
  · rw [slot]; exact Nat.zero_le _
  · rw [slot] at pending; cases pending
  · rw [backoff] at runs; cases runs

/-- Settles O58: every row is a number of moves, and every move keeps both invariants beside the queues. -/
theorem stepKeepsTagsAndAttempts : Obligations.StepKeepsTagsAndAttempts := by
  intro s t run q
  have tags : CallInvariant fun s => QueuesCoherent s ∧ TagsCoherent s :=
    ⟨And.left, fun m ⟨q, h⟩ => ⟨q.move m, h.move q m⟩,
      fun calls idle => ⟨queuesCoherent_clear calls idle, tagsCoherent_clear calls⟩⟩
  have attempts : CallInvariant fun s => QueuesCoherent s ∧ AttemptsBounded s :=
    ⟨And.left, fun m ⟨q, h⟩ => ⟨q.move m, h.move q m⟩,
      fun calls idle => ⟨queuesCoherent_clear calls idle, attemptsBounded_clear calls⟩⟩
  exact ⟨fun h => (tags.kept.step run ⟨q, h⟩).2, fun h => (attempts.kept.step run ⟨q, h⟩).2⟩

end Sys2Proof.Safety
end

section
/-! Calls completed one after another without having begun: by FLUSH_CLASS, and behind a broken chain (R60, R67, R69). -/

namespace Sys2Proof.Calling

open Sys2Proof.Machine Sys2Proof.Safety Sys2Proof.Linkage

variable {s t u : State} {n : SlotId} {o : CallOutcome} {l k : List SlotId}

/-- What is left once the QUEUED calls of a list have ended with this outcome, in the order of the list. -/
structure Completed (o : CallOutcome) (s t : State) (l : List SlotId) : Prop where
  slot : ∀ m : SlotId, t.calls.slots[m] = if m ∈ l then closedSlot s.calls.slots[m] o else s.calls.slots[m]
  queue : ∀ c : Fin 4, t.calls.queues[c] = s.calls.queues[c].filter (· ∉ l)
  records : ∃ recs : List Completion, t.calls.cq = s.calls.cq ++ recs ∧ recs.map Completion.slot = l ∧
    (∀ r ∈ recs, r.outcome = o) ∧
    ∀ i (lt : i < recs.length), recs[i].sequence = s.calls.seq + BitVec.ofNat 8 i
  seq : t.calls.seq = s.calls.seq + BitVec.ofNat 8 l.length
  successor : t.calls.successor = if s.calls.successor.any (· ∈ l) then none else s.calls.successor
  backoff : t.calls.backoff = s.calls.backoff
  current : t.calls.current = s.calls.current
  rest : t = { s with calls := t.calls, sess := t.sess }
  tags : (∀ m : SlotId, s.calls.slots[m].state = .queued → s.calls.slots[m].tag = none) → t.calls.tags = s.calls.tags
  sess : (∀ m : SlotId, s.calls.slots[m].state = .queued → s.sess.gate ≠ some m) → t.sess = s.sess

theorem Completed.nil (o : CallOutcome) (s : State) : Completed o s s [] where
  slot _ := by simp
  queue _ := by simp
  records := ⟨[], by simp⟩
  seq := by simp
  successor := by cases h : s.calls.successor <;> rfl
  backoff := rfl
  current := rfl
  rest := rfl
  tags _ := rfl
  sess _ := rfl

/-- The next calls follow. -/
theorem Completed.append (h : Completed o s t l) (g : Completed o t u k) (apart : ∀ m ∈ k, m ∉ l) :
    Completed o s u (l ++ k) := by
  have queued {m : SlotId} (is : t.calls.slots[m].state = .queued) : s.calls.slots[m].state = .queued ∧
      t.calls.slots[m] = s.calls.slots[m] := by
    have slot := h.slot m
    split at slot
    · rw [slot] at is; cases is
    · exact ⟨slot ▸ is, slot⟩
  obtain ⟨first, cqFirst, slotsFirst, outcomesFirst, sequencesFirst⟩ := h.records
  obtain ⟨second, cqSecond, slotsSecond, outcomesSecond, sequencesSecond⟩ := g.records
  have length : first.length = l.length := by rw [← slotsFirst, List.length_map]
  refine ⟨fun m => ?_, fun c => ?_, ⟨first ++ second, ?_, ?_, ?_, fun i lt => ?_⟩, ?_, ?_, ?_, ?_, ?_, fun untagged => ?_,
    fun free => ?_⟩
  · rw [g.slot, h.slot]
    by_cases inL : m ∈ l
    · have notK : m ∉ k := fun inK => apart m inK inL
      simp [inL, notK]
    · simp [inL]
  · rw [g.queue, h.queue, List.filter_filter]
    refine List.filter_congr fun m _ => ?_
    simp [List.mem_append, not_or, Bool.and_comm]
  · rw [cqSecond, cqFirst, List.append_assoc]
  · rw [List.map_append, slotsFirst, slotsSecond]
  · intro r inBoth
    exact (List.mem_append.mp inBoth).elim (outcomesFirst r) (outcomesSecond r)
  · by_cases inFirst : i < first.length
    · rw [List.getElem_append_left inFirst]
      exact sequencesFirst i inFirst
    · rw [List.getElem_append_right (by omega), sequencesSecond, h.seq, ← length, BitVec.add_assoc, ← BitVec.ofNat_add]
      congr 3
      omega
  · rw [g.seq, h.seq, List.length_append, BitVec.ofNat_add, BitVec.add_assoc]
  · rw [g.successor, h.successor]
    cases s.calls.successor with
    | none => rfl
    | some m =>
      by_cases inL : m ∈ l <;> simp [inL]
  · rw [g.backoff, h.backoff]
  · rw [g.current, h.current]
  · rw [g.rest, h.rest]
  · rw [g.tags, h.tags untagged]
    intro m is
    obtain ⟨was, same⟩ := queued is
    rw [same]
    exact untagged m was
  · have gate := h.sess free
    rw [g.sess, gate]
    intro m is
    rw [gate]
    exact free m (queued is).1

/-- The outcomes with which a call that has not begun can end: they push and pop nothing (R72, R74). -/
def EndsEarly (o : CallOutcome) : Prop := o.successful = false ∧ o ≠ .refused

theorem early_not_acked (early : EndsEarly o) : o ≠ .acked := by
  rintro rfl
  exact absurd early.1 nofun

/-- The end of one QUEUED call (R60). -/
theorem completed_closeCall (early : EndsEarly o) (source : BitVec 5) (q : ClassQueuesCoherent s)
    (queued : s.calls.slots[n].state = .queued) : Completed o s (closeCall n o source s) [n] := by
  have acked := early_not_acked early
  refine ⟨fun m => ?_, fun c => ?_, ⟨[s.calls.slots[n].record n o s.calls.seq], closeCall_cq .., rfl, ?_, fun i lt => ?_⟩,
    closeCall_seq .., ?_, ?_, closeCall_current .., ?_, fun untagged => ?_, fun free => ?_⟩
  · rw [StrandBus.closeCall_slots]
    by_cases here : m = n
    · subst here; simp [closedSlot]
    · simp [here]
  · rw [StrandBus.closeCall_queues]
    have out (d : Fin 4) (elsewhere : s.calls.slots[n].cls ≠ d) : n ∉ s.calls.queues[d] := by
      rw [q.member]; exact fun h => elsewhere h.2
    split
    · rw [(q.once c).erase_eq_filter]
      exact List.filter_congr fun m _ => by simp [bne, beq_eq_decide]
    · rename_i elsewhere
      refine (List.filter_eq_self.mpr fun m inQueue => ?_).symm
      have other : m ≠ n := fun e => out c elsewhere (e ▸ inQueue)
      simpa using other
  · simp [Slot.record]
  · obtain rfl : i = 0 := by simpa using lt
    simp [Slot.record]
  · rw [closeCall_successor]
    simp only [early.1, Bool.false_eq_true, false_and, and_false, if_false]
    cases s.calls.successor with
    | none => rfl
    | some m => simp
  · rw [closeCall_backoff, if_neg (by rw [queued]; nofun)]
  · refine state_ext ?_ ?_ ?_ ?_ ?_ ?_ rfl rfl ?_ ?_ ?_ ?_ (closeCall_events n source s acked) <;> simp
  · refine Vector.ext fun i lt => ?_
    have tag := closeCall_tags n o source s ⟨i, lt⟩
    rw [if_neg fun h => by rw [untagged n queued] at h; exact absurd h.1 nofun] at tag
    exact tag
  · rw [(closeCall_spec s n o source).2, closeCall_stack]
    simp [acked, early.2, free n queued]

end Sys2Proof.Calling
end

section
/-! FLUSH_CLASS, broken chains, and the final outcome of a call with what it leaves (R56, R60, R61, R67 to R74). -/

namespace Sys2Proof.Calling

open Sys2Proof.Machine Sys2Proof.Safety Sys2Proof.Linkage

variable {s t u : State} {n : SlotId} {o : CallOutcome} {l k : List SlotId}

/-! ## FLUSH_CLASS (R67) -/

/-- The class queues after the end of one call by itself. -/
theorem classQueues_closeCall (q : ClassQueuesCoherent s) (fails : o.successful = false) (source : BitVec 5) :
    ClassQueuesCoherent (closeCall n o source s) :=
  q.closed (dequeued_closeCall n o source s) fun succeeds => by rw [fails] at succeeds; cases succeeds

/-- The calls that FLUSH_CLASS completes, in the order of the queue. -/
theorem completed_flush (l : List SlotId) : ∀ {s : State}, ClassQueuesCoherent s → l.Nodup →
    (∀ n ∈ l, s.calls.slots[n].state = .queued) →
    Completed .flushed s (l.foldl (fun t n => decideOutcome n .flushed 0 t) s) l := by
  induction l with
  | nil => exact fun {s} _ _ _ => .nil .flushed s
  | cons n l ih =>
    intro s q once queued
    obtain ⟨notIn, once⟩ := List.nodup_cons.mp once
    have one := completed_closeCall (o := .flushed) ⟨rfl, nofun⟩ 0 q (queued n List.mem_cons_self)
    rw [List.foldl_cons, decideOutcome_alone _ _ _ _ (by simp [Slot.breaks])]
    refine one.append (ih (classQueues_closeCall q rfl 0) once fun m inRest => ?_) fun m inRest => ?_
    · have other : m ≠ n := fun e => notIn (e ▸ inRest)
      rw [StrandBus.closeCall_slots, if_neg other]
      exact queued m (List.mem_cons_of_mem _ inRest)
    · simpa using fun e : m = n => notIn (e ▸ inRest)

/-! ## Broken chains (R69) -/

/-- The calls that a broken chain completes, of those that stand behind it in their queue. -/
def brokenRun (s : State) : List SlotId → List SlotId
  | [] => []
  | m :: rest => if s.calls.slots[m].chain then m :: brokenRun s rest else [m]

theorem brokenRun_eq (s : State) (back : List SlotId) :
    let run := back.takeWhile fun m => s.calls.slots[m].chain
    brokenRun s back = run ++ (back.drop run.length).take 1 := by
  induction back with
  | nil => rfl
  | cons m rest ih =>
    unfold brokenRun
    by_cases chained : s.calls.slots[m].chain = true
    · rw [if_pos chained, ih]
      simp [chained, -Fin.getElem_fin]
    · rw [if_neg chained]
      simp [chained, -Fin.getElem_fin]

theorem brokenRun_prefix (s : State) (back : List SlotId) : brokenRun s back <+: back := by
  induction back with
  | nil => exact List.prefix_rfl
  | cons m rest ih =>
    unfold brokenRun
    split
    · exact (List.prefix_cons_inj m).mpr ih
    · exact ⟨rest, rfl⟩

theorem brokenRun_congr (back : List SlotId)
    (same : ∀ m ∈ back, t.calls.slots[m].chain = s.calls.slots[m].chain) : brokenRun t back = brokenRun s back := by
  induction back with
  | nil => rfl
  | cons m rest ih =>
    unfold brokenRun
    rw [same m List.mem_cons_self, ih fun k inRest => same k (List.mem_cons_of_mem _ inRest)]

/-- The call behind another, by its place. -/
theorem behind_append {front rest : List SlotId} (once : (front ++ n :: rest).Nodup) :
    behind n (front ++ n :: rest) = rest.head? := by
  induction front with
  | nil => simp [behind]
  | cons m front ih =>
    obtain ⟨notIn, once⟩ := List.nodup_cons.mp once
    have other : m ≠ n := by
      rintro rfl
      simp at notIn
    rw [List.cons_append, behind, if_neg other, ih once]

theorem erase_middle {front rest : List SlotId} (once : (front ++ n :: rest).Nodup) :
    (front ++ n :: rest).erase n = front ++ rest := by
  have notIn : n ∉ front := fun inFront =>
    (List.nodup_append.mp once).2.2 n inFront n List.mem_cons_self rfl
  rw [List.erase_append_right _ notIn, List.erase_cons_head]

/-- Taking a run out of the middle of a queue. -/
theorem filter_run {front back : List SlotId} (once : (front ++ back).Nodup) (run : l <+: back) :
    (front ++ back).filter (· ∉ l) = front ++ back.drop l.length := by
  obtain ⟨rest, rfl⟩ := run
  obtain ⟨-, onceBack, apart⟩ := List.nodup_append.mp once
  obtain ⟨-, -, apartRest⟩ := List.nodup_append.mp onceBack
  have keepFront : front.filter (· ∉ l) = front := List.filter_eq_self.mpr fun m inFront => by
    simpa using fun inRun => apart m inFront m (List.mem_append_left _ inRun) rfl
  have keepRest : rest.filter (· ∉ l) = rest := List.filter_eq_self.mpr fun m inRest => by
    simpa using fun inRun => apartRest m inRun m inRest rfl
  have dropRun : l.filter (· ∉ l) = [] := List.filter_eq_nil_iff.mpr fun m inRun => by simpa using inRun
  rw [List.filter_append, List.filter_append, keepFront, keepRest, dropRun, List.nil_append, List.drop_left]

/-- A broken chain runs along its queue, from the call `m` on, as long as the calls completed have CHAIN 1 (R69). -/
theorem completed_closeChain (fuel : Nat) : ∀ {s : State} {m : SlotId} {c : Fin 4} {front rest : List SlotId}
    (source : BitVec 5), ClassQueuesCoherent s → s.calls.slots[m].state = .queued → s.calls.slots[m].cls = c →
    s.calls.queues[c] = front ++ m :: rest → rest.length < fuel →
    Completed .chainBroken s (closeChain fuel m .chainBroken source s) (brokenRun s (m :: rest)) := by
  induction fuel with
  | zero => exact fun _ _ _ _ _ lt => absurd lt (Nat.not_lt_zero _)
  | succ fuel ih =>
    intro s m c front rest source q queued cls queue lt
    have once : (front ++ m :: rest).Nodup := queue ▸ q.once c
    have one := completed_closeCall (o := .chainBroken) ⟨rfl, nofun⟩ source q queued
    have next : behind m s.calls.queues[s.calls.slots[m].cls] = rest.head? := by
      simp only [cls, queue, behind_append once]
    have breaks : s.calls.slots[m].breaks .chainBroken = s.calls.slots[m].chain := by
      simp [Slot.breaks, CallOutcome.successful]
    unfold closeChain brokenRun
    dsimp only
    rw [breaks]
    by_cases chained : s.calls.slots[m].chain = true
    · rw [if_pos chained, if_pos chained]
      cases rest with
      | nil =>
        rw [next]
        exact one
      | cons k rest =>
        rw [next]
        have isNext : behind m s.calls.queues[s.calls.slots[m].cls] = some k := next
        obtain ⟨queuedK, clsK, ne⟩ := q.queued_behind isNext
        have slot (i : SlotId) (other : i ≠ m) :
            (closeCall m .chainBroken source s).calls.slots[i] = s.calls.slots[i] := by
          rw [StrandBus.closeCall_slots, if_neg other]
        have later : ∀ i ∈ k :: rest, i ≠ m := by
          rintro i inRest rfl
          exact (List.nodup_cons.mp (List.nodup_append.mp once).2.1).1 inRest
        have behindIt := ih (s := closeCall m .chainBroken source s) (m := k) (c := c) (front := front) (rest := rest) 0
          (classQueues_closeCall q rfl source)
          (by rw [slot k ne]; exact queuedK) (by rw [slot k ne, clsK, cls])
          (by rw [StrandBus.closeCall_queues, if_pos cls, queue, erase_middle once]) (Nat.lt_of_succ_lt_succ lt)
        have run : brokenRun (closeCall m .chainBroken source s) (k :: rest) = brokenRun s (k :: rest) :=
          brokenRun_congr _ fun i inRest => by rw [slot i (later i inRest)]
        rw [run] at behindIt
        exact one.append behindIt fun i inRun => by
          simpa using later i ((brokenRun_prefix s _).subset inRun)
    · rw [if_neg chained, if_neg chained]
      exact one

/-- The outcomes that break a chain (R60, R69). -/
theorem breaks_iff {x : Slot} : x.breaks o = true ↔ x.chain = true ∧ o ∉ [CallOutcome.acked, .sent, .flushed] := by
  cases o <;> simp [Slot.breaks, CallOutcome.successful]

theorem not_successful_of_breaks {x : Slot} (breaks : x.breaks o = true) : o.successful = false := by
  simp only [Slot.breaks, Bool.and_eq_true, Bool.not_eq_true'] at breaks
  exact breaks.1.2

/-- A final outcome that breaks a chain: the five steps of R60 for the call itself, and then the chain behind it. -/
theorem completed_decideOutcome (source : BitVec 5) (q : ClassQueuesCoherent s)
    (breaks : s.calls.slots[n].breaks o = true) {front back : List SlotId}
    (queue : s.calls.queues[s.calls.slots[n].cls] = front ++ n :: back) :
    Completed .chainBroken (closeCall n o source s) (decideOutcome n o source s) (brokenRun s back) := by
  have once : (front ++ n :: back).Nodup := queue ▸ q.once _
  have next : behind n s.calls.queues[s.calls.slots[n].cls] = back.head? := by rw [queue, behind_append once]
  have coherent := classQueues_closeCall (n := n) q (not_successful_of_breaks breaks) source
  rw [decideOutcome, closeChain, if_pos breaks]
  cases back with
  | nil =>
    rw [next]
    exact .nil _ _
  | cons m rest =>
    rw [next]
    have isNext : behind n s.calls.queues[s.calls.slots[n].cls] = some m := next
    obtain ⟨queued, cls, other⟩ := q.queued_behind isNext
    have slot (i : SlotId) (ne : i ≠ n) : (closeCall n o source s).calls.slots[i] = s.calls.slots[i] := by
      rw [StrandBus.closeCall_slots, if_neg ne]
    have later : ∀ i ∈ m :: rest, i ≠ n := by
      rintro i inRest rfl
      exact (List.nodup_cons.mp (List.nodup_append.mp once).2.1).1 inRest
    have few : rest.length < 23 := by
      have most := once.length_le_card
      simp only [List.length_append, List.length_cons, Fintype.card_fin, Config.slotCount] at most
      omega
    have chain := completed_closeChain 23 (c := s.calls.slots[n].cls) (front := front) (rest := rest) 0 coherent
      (by rw [slot m other]; exact queued) (by rw [slot m other]; exact cls)
      (by rw [StrandBus.closeCall_queues, if_pos rfl, queue, erase_middle once]) few
    have run : brokenRun (closeCall n o source s) (m :: rest) = brokenRun s (m :: rest) :=
      brokenRun_congr _ fun i inRest => by rw [slot i (later i inRest)]
    rw [run] at chain
    exact chain

/-- Settles O34: the chain that the call's end leaves completed, as one run of its queue. -/
theorem chainBreaksInQueueOrder : Obligations.ChainBreaksInQueueOrder := by
  intro n o source s q isOpen chained outcome front back queue
  have breaks : s.calls.slots[n].breaks o = true := breaks_iff.mpr ⟨chained, outcome⟩
  have once : (front ++ n :: back).Nodup := queue ▸ q.once _
  have chain := completed_decideOutcome source q breaks queue
  rw [brokenRun_eq] at chain
  obtain ⟨recs, cq, slots, outcomes, sequences⟩ := chain.records
  have within := brokenRun_prefix s back
  rw [brokenRun_eq] at within
  refine ⟨⟨s.calls.slots[n].record n o s.calls.seq, recs, ?_, rfl, rfl, slots, outcomes, ?_⟩, fun m other => ?_, ?_⟩
  · rw [cq, closeCall_cq, List.append_assoc]; rfl
  · rw [closeCall_seq] at sequences; exact sequences
  · rw [chain.slot, StrandBus.closeCall_slots, if_neg other]
    rfl
  · rw [chain.queue, StrandBus.closeCall_queues, if_pos rfl, queue, erase_middle once]
    exact filter_run (by rw [← erase_middle once]; exact once.erase n) within

end Sys2Proof.Calling
end

section
/-! The final outcome of a call, field by field (R56, R60, R61, R68, R71, R72, R74). -/

namespace Sys2Proof.Calling

open Sys2Proof.Machine Sys2Proof.Safety Sys2Proof.Linkage

variable {s t u : State} {n : SlotId} {o : CallOutcome} {l : List SlotId}

/-- What the calls of a broken chain leave of what the outcome of the first call made. -/
structure Untouched (s t : State) (n : SlotId) : Prop where
  rest : t = { s with calls := t.calls }
  slot : t.calls.slots[n] = s.calls.slots[n]
  backoff : t.calls.backoff = s.calls.backoff
  tags : t.calls.tags = s.calls.tags
  cq : ∃ more, t.calls.cq = s.calls.cq ++ more
  current : t.calls.current = s.calls.current
  successor : t.calls.successor = s.calls.successor

/-- The calls behind a call, in its queue. -/
theorem exists_split (q : ClassQueuesCoherent s) (isOpen : s.calls.slots[n].open = true) :
    ∃ front back, s.calls.queues[s.calls.slots[n].cls] = front ++ n :: back :=
  List.append_of_mem ((q.member n _).mpr ⟨isOpen, rfl⟩)

theorem any_mem {x : Option SlotId} (named : x.any (fun k => decide (k ∈ l)) = true) : ∃ k, x = some k ∧ k ∈ l := by
  cases x with
  | none => cases named
  | some k => exact ⟨k, rfl, of_decide_eq_true named⟩

/-- A call that stands behind another is not the head of its queue. -/
theorem not_head_of_back {front back : List SlotId} {k : SlotId} (once : (front ++ n :: back).Nodup) (inBack : k ∈ back) :
    (front ++ n :: back).head? ≠ some k := by
  obtain ⟨-, onceBack, apart⟩ := List.nodup_append.mp once
  intro head
  cases front with
  | nil =>
    obtain rfl : n = k := Option.some.inj head
    exact (List.nodup_cons.mp onceBack).1 inBack
  | cons i front =>
    obtain rfl : i = k := Option.some.inj head
    exact apart i List.mem_cons_self i (List.mem_cons_of_mem _ inBack) rfl

theorem class_of_mem (q : ClassQueuesCoherent s) {c : Fin 4} {l : List SlotId} {k : SlotId}
    (queue : s.calls.queues[c] = l) (inQueue : k ∈ l) : s.calls.slots[k].cls = c :=
  ((q.member k c).mp (queue ▸ inQueue)).2

/-- The calls behind an unsuccessful call end with nothing of what its own outcome made undone (R69). -/
theorem untouched_decideOutcome (source : BitVec 5)
    (legal : s.calls.slots[n].breaks o = true → s.calls.slots[n].open = true ∧ ClassQueuesCoherent s ∧ TagsCoherent s ∧
      SessionsCoherent s) : Untouched (closeCall n o source s) (decideOutcome n o source s) n := by
  by_cases breaks : s.calls.slots[n].breaks o = true
  · obtain ⟨isOpen, q, tags, sessions⟩ := legal breaks
    obtain ⟨front, back, queue⟩ := exists_split q isOpen
    have chain := completed_decideOutcome source q breaks queue
    have once : (front ++ n :: back).Nodup := queue ▸ q.once _
    have notIn : n ∉ brokenRun s back := fun inRun =>
      (List.nodup_cons.mp (List.nodup_append.mp once).2.1).1 ((brokenRun_prefix s back).subset inRun)
    have queued {m : SlotId} (is : (closeCall n o source s).calls.slots[m].state = .queued) :
        s.calls.slots[m].state = .queued ∧ m ≠ n ∧ (closeCall n o source s).calls.slots[m] = s.calls.slots[m] := by
      have slot := StrandBus.closeCall_slots s n o source m
      split at slot
      · rw [slot] at is; cases is
      · rename_i ne
        exact ⟨slot ▸ is, ne, slot⟩
    have sess : (decideOutcome n o source s).sess = (closeCall n o source s).sess := by
      refine chain.sess fun m is gate => ?_
      obtain ⟨was, ne, -⟩ := queued is
      have gateBefore : s.sess.gate = some m := by
        rw [(closeCall_spec s n o source).2] at gate
        dsimp only at gate
        split at gate
        · cases gate
        · exact gate
      have active := ((sessions.gate m).mp gateBefore).1
      rw [was] at active
      cases active
    obtain ⟨recs, cq, -⟩ := chain.records
    refine ⟨?_, ?_, chain.backoff, chain.tags fun m is => ?_, ⟨recs, cq⟩, chain.current, ?_⟩
    · have frame := chain.rest
      rw [sess] at frame
      exact frame
    · rw [chain.slot, if_neg notIn]
    · obtain ⟨was, -, same⟩ := queued is
      rw [same]
      exact tags.started m was
    · refine chain.successor.trans (if_neg fun inRun => ?_)
      obtain ⟨k, is, inRun⟩ := any_mem inRun
      rw [closeCall_successor, not_successful_of_breaks breaks] at is
      simp only [Bool.false_eq_true, false_and, and_false, if_false] at is
      split at is
      · cases is
      · have inBack : k ∈ back := (brokenRun_prefix s back).subset inRun
        have inQueue : k ∈ front ++ n :: back := List.mem_append_right _ (List.mem_cons_of_mem _ inBack)
        exact not_head_of_back once inBack
          (queue ▸ q.successor_of is (class_of_mem q queue inQueue))
  · rw [decideOutcome_alone _ _ _ _ (Bool.not_eq_true _ ▸ breaks)]
    exact ⟨rfl, rfl, rfl, rfl, ⟨[], (List.append_nil _).symm⟩, rfl, rfl⟩

/-! ## The Session Unit -/

/-- A timer of `us` µs that was started `age` HCLK cycles ago has ended, or runs for what is left of it (R131, log 21). -/
theorem startAged_eq_none {d us age : Nat} (ended : us * (d + 1) ≤ age) : Timer.startAged d us age = none := if_pos ended

theorem startAged_eq_some {d us age : Nat} (left : age < us * (d + 1)) : ∃ m : Timer, Timer.startAged d us age = some m ∧
    1 ≤ m.us ∧ 1 ≤ m.cyc ∧ m.cyc ≤ d + 1 ∧ (m.us - 1) * (d + 1) + m.cyc = us * (d + 1) - age := by
  refine ⟨_, if_neg (Nat.not_le.mpr left), ?_⟩
  obtain ⟨k, is⟩ : ∃ k, us * (d + 1) - age = k + 1 := ⟨us * (d + 1) - age - 1, by omega⟩
  have whole : (k + 1 + d) / (d + 1) = k / (d + 1) + 1 := by
    rw [Nat.add_assoc, Nat.add_comm 1 d, Nat.add_div_right _ (Nat.succ_pos d)]
  have cycles : k % (d + 1) < d + 1 := Nat.mod_lt k (Nat.succ_pos d)
  have parts : k / (d + 1) * (d + 1) + k % (d + 1) = k := Nat.div_add_mod' k (d + 1)
  simp only [is, whole, Nat.add_sub_cancel]
  exact ⟨Nat.le_add_left 1 _, Nat.le_add_left 1 _, cycles, by rw [← Nat.add_assoc, parts]⟩

/-- The entry that a CLAIM ended ACKED pushes (R72). -/
def pushedEntry (s : State) (node identity : BitVec 5) (lease : BitVec 8) : SessEntry :=
  let mirror := if lease = 0 then none else s.mirrorFor lease
  { node, identity, lease, mirror, lapsed := lease ≠ 0 && mirror.isNone }

theorem pushSession_eq (s : State) (node identity : BitVec 5) (lease : BitVec 8) : pushSession node identity lease s =
    let e := pushedEntry s node identity lease
    raiseIf e.lapsed .leaseLapsed (setStack (e :: s.sess.stack) s) := rfl

section
variable (s : State) (node identity : BitVec 5) (lease : BitVec 8)

/-- The mirror of a pushed entry: none for a lease of 0, what is left of it where time is left, and lapsed where none is
(R72, R73, log 21). -/
theorem pushedEntry_free : (pushedEntry s node identity 0).mirror = none ∧ (pushedEntry s node identity 0).lapsed = false :=
  ⟨rfl, rfl⟩

theorem pushedEntry_ended {s : State} {lease : BitVec 8} (leased : lease ≠ 0)
    (ended : (lease.toNat - 1) * 1000 * (s.div + 1) ≤ s.link.callAge.getD 0) :
    (pushedEntry s node identity lease).mirror = none ∧ (pushedEntry s node identity lease).lapsed = true := by
  have mirror : s.mirrorFor lease = none := startAged_eq_none ended
  simpa [pushedEntry, mirror] using leased

theorem pushedEntry_left {s : State} {lease : BitVec 8} (leased : lease ≠ 0)
    (left : s.link.callAge.getD 0 < (lease.toNat - 1) * 1000 * (s.div + 1)) :
    (pushedEntry s node identity lease).lapsed = false ∧ ∃ m : Timer, (pushedEntry s node identity lease).mirror = some m ∧
      1 ≤ m.us ∧ 1 ≤ m.cyc ∧ m.cyc ≤ s.div + 1 ∧
      (m.us - 1) * (s.div + 1) + m.cyc = (lease.toNat - 1) * 1000 * (s.div + 1) - s.link.callAge.getD 0 := by
  obtain ⟨m, mirror, runs⟩ := startAged_eq_some left
  have mirror : s.mirrorFor lease = some m := mirror
  exact ⟨by simp [pushedEntry, mirror], m, (if_neg leased).trans mirror, runs⟩

theorem pushedEntry_lapsed_iff : (pushedEntry s node identity lease).lapsed = true ↔
    lease ≠ 0 ∧ (lease.toNat - 1) * 1000 * (s.div + 1) ≤ s.link.callAge.getD 0 := by
  by_cases leased : lease = 0
  · subst leased
    simp [pushedEntry]
  · refine ⟨fun lapsed => ⟨leased, Nat.not_lt.mp fun left => ?_⟩, fun ended => (pushedEntry_ended _ _ leased ended.2).2⟩
    rw [(pushedEntry_left _ _ leased left).1] at lapsed
    cases lapsed

theorem pushSession_stack :
    (pushSession node identity lease s).sess.stack = pushedEntry s node identity lease :: s.sess.stack := by
  rw [pushSession_eq]
  simp

theorem pushSession_events : (pushSession node identity lease s).events =
    if (pushedEntry s node identity lease).lapsed = true then (raise .leaseLapsed s).events else s.events := by
  rw [pushSession_eq]
  dsimp only
  cases (pushedEntry s node identity lease).lapsed <;> rfl
end

/-- Step 3 of R60 on the event register: a push whose mirror has ended raises LEASE_LAPSED (R72). -/
theorem closeSession_events (n : SlotId) (x : Slot) (o : CallOutcome) (source : BitVec 5) (s : State) :
    (closeSession n x o source s).events =
      if x.kind = 3 ∧ o = .acked then (pushSession x.dest source (x.answer.headD 0) s).events else s.events := by
  have gate (u : State) : (if u.sess.gate = some n then { u with sess := { u.sess with gate := none } } else u).events =
      u.events := by split <;> rfl
  unfold closeSession
  dsimp only
  rw [gate]
  split
  · rfl
  · split <;> rfl

theorem closeCall_events (n : SlotId) (o : CallOutcome) (source : BitVec 5) (s : State) :
    (closeCall n o source s).events =
      let x := s.calls.slots[n]
      if x.kind = 3 ∧ o = .acked then (pushSession x.dest source (x.answer.headD 0) s).events else s.events := by
  simp [closeCall, closeSession_events, pushSession_events, pushedEntry, State.mirrorFor, State.div]

/-! ## What a final outcome leaves -/

theorem successful_iff : o.successful = true ↔ o = .acked ∨ o = .sent := by simp [CallOutcome.successful]

/-- What a final outcome decides changes calls, Session Unit and event register alone. -/
theorem closeCall_rest (n : SlotId) (o : CallOutcome) (source : BitVec 5) (s : State) :
    let t := closeCall n o source s
    t = { s with calls := t.calls, sess := t.sess, events := t.events } := by
  refine state_ext ?_ ?_ ?_ ?_ ?_ ?_ rfl rfl ?_ ?_ ?_ ?_ rfl <;> simp

/-- Settles O33: the call's own five steps, which the calls of a broken chain leave untouched. -/
theorem outcomeClosesCall : Obligations.OutcomeClosesCall := by
  intro n o source s x breaks legal t after closed record pushes lease cycles age
  have apart : Untouched (closeCall n o source s) t n :=
    untouched_decideOutcome source fun is => legal (breaks_iff.mp is)
  obtain ⟨calls, sess⟩ := closeCall_spec s n o source
  have sessSame : t.sess = (closeCall n o source s).sess := by rw [apart.rest]
  have eventsSame : t.events = (closeCall n o source s).events := by rw [apart.rest]
  have successful : o.successful = true ↔ o = .acked ∨ o = .sent := successful_iff
  have stack := closeCall_stack s n o source
  have events := closeCall_events n o source s
  refine ⟨?_, ?_, ?_, fun d => ?_, ?_, ?_, ?_, ?_, ?_, ?_, ?_, fun whole => ?_⟩
  · rw [sessSame, eventsSame, apart.rest, closeCall_rest n o source s]
  · rw [apart.slot, StrandBus.closeCall_slots, if_pos rfl]
  · rw [apart.backoff, closeCall_backoff]
  · rw [apart.tags, closeCall_tags]
    rfl
  · obtain ⟨more, cq⟩ := apart.cq
    exact ⟨more, by rw [cq, closeCall_cq, List.append_assoc]; rfl⟩
  · rw [apart.current, closeCall_current]
  · rw [apart.successor, closeCall_successor]
    simp only [successful, Option.isSome_iff_ne_none]
    rfl
  · rw [sessSame, sess]
  · rw [sessSame, sess]
  · rw [sessSame, stack]
    by_cases pushed : pushes
    · rw [if_pos pushed]
      refine ⟨pushedEntry s x.dest source lease, ?_, rfl, rfl, rfl, fun free => ?_,
        fun leased ended => pushedEntry_ended _ _ leased ended, fun leased left => pushedEntry_left _ _ leased left⟩
      · exact (if_pos pushed).trans (pushSession_stack ..)
      · rw [free]
        exact pushedEntry_free ..
    · rw [if_neg pushed]
      split
      · rename_i pops
        exact (if_neg pushed).trans (if_pos pops)
      · rename_i stays
        exact (if_neg pushed).trans (if_neg stays)
  · rw [eventsSame, events]
    by_cases pushed : pushes
    · refine (if_pos pushed).trans ((pushSession_events ..).trans ?_)
      simp only [pushedEntry_lapsed_iff, pushed, true_and]
      rfl
    · exact (if_neg pushed).trans (if_neg fun h => pushed h.1).symm
  · have alone : t = closeCall n o source s :=
      decideOutcome_alone s n o source (Bool.eq_false_iff.mpr fun is => whole (breaks_iff.mp is))
    rw [alone, calls]
    exact ⟨rfl, rfl, rfl, rfl⟩

end Sys2Proof.Calling
end

section
/-! The commands on calls and tags: CANCEL, CQ_POP, RETIRE, FLUSH_CLASS and TAG_RESET (R58, R62, R63, R65, R67). -/

namespace Sys2Proof.Calling

open Sys2Proof.Machine Sys2Proof.Safety Sys2Proof.Linkage

variable {s : State} {n : SlotId}

/-- Settles O20: the branches of CANCEL, by the state of the slot. -/
theorem cancelByState : Obligations.CancelByState := by
  intro arg now s running is
  rw [exec_cancel now running arg, ← is]
  refine ⟨fun beyond => ?_, fun n named => ⟨fun waits => ?_, fun active current => ?_, fun elsewhere => ?_⟩⟩
  · rw [cmdCancel, argSlot_of_ge arg beyond]
    rfl
  · simp only [cmdCancel, argSlot_of_lt arg n named]
    rcases waits with queued | ⟨active, notCurrent⟩
    · simp only [queued]
      rfl
    · simp only [active, if_neg notCurrent]
      rfl
  · have marks : cmdCancel arg s = okWith 1 (updSlot n (fun x => { x with cancelPending := true }) s) := by
      simp only [cmdCancel, argSlot_of_lt arg n named, active, if_pos current]
    rw [marks]
    rfl
  · simp only [cmdCancel, argSlot_of_lt arg n named]
    simp only [List.mem_cons, List.not_mem_nil, or_false] at elsewhere
    rcases elsewhere with free | done | harvested
    · simp only [free]
      rfl
    · simp only [done]
      rfl
    · simp only [harvested]
      rfl

/-- Settles O21: the branches of CQ_POP and RETIRE. -/
theorem slotsHarvestedAndRetired : Obligations.SlotsHarvestedAndRetired := by
  intro arg now s running is
  rw [exec_cqPop now running, exec_retire now running arg, ← is]
  refine ⟨fun empty => ?_, fun r rest records => ?_, fun beyond => ?_, fun n named => ⟨fun harvested => ?_, fun other => ?_⟩⟩
  · simp only [cmdCqPop, empty]
    rfl
  · simp only [cmdCqPop, records]
    rfl
  · rw [cmdRetire, argSlot_of_ge arg beyond]
    rfl
  all_goals simp only [cmdRetire, argSlot_of_lt arg n named]
  · rw [if_pos harvested]
    rfl
  · rw [if_neg other]
    rfl

/-! ## FLUSH_CLASS (R67) -/

/-- The QUEUED calls of a class, in the order of its queue. -/
def queuedIn (s : State) (c : Fin 4) : List SlotId :=
  s.calls.queues[c].filter fun n => s.calls.slots[n].state = .queued

theorem mem_queuedIn {c : Fin 4} : n ∈ queuedIn s c ↔ n ∈ s.calls.queues[c] ∧ s.calls.slots[n].state = .queued := by
  simp only [queuedIn, List.mem_filter, decide_eq_true_eq]

/-- Settles O22: FLUSH_CLASS completes the QUEUED calls of one queue. -/
theorem flushCompletesQueued : Obligations.FlushCompletesQueued := by
  intro arg now s running is q
  rw [exec_flushClass now running arg, ← is]
  refine ⟨fun beyond => ?_, fun c named => ?_⟩
  · rw [cmdFlushClass, argFour_of_ge arg beyond]
    rfl
  · have flush := completed_flush (queuedIn s c) q.toClassQueuesCoherent ((q.once c).filter _)
      fun m inQueue => (mem_queuedIn.mp inQueue).2
    have queue (d : Fin 4) := flush.queue d
    refine ⟨_, ?_, ?_, fun d other => ?_, flush.slot, flush.records, flush.seq, flush.successor, flush.backoff, flush.current,
      flush.rest, fun tags => flush.tags tags.started, fun sessions => flush.sess fun m queued gate => ?_⟩
    · rw [cmdFlushClass, argFour_of_lt arg c named]
      rfl
    · rw [queue]
      refine List.filter_congr fun m inQueue => ?_
      simp [mem_queuedIn, inQueue, -Fin.getElem_fin]
    · rw [queue]
      refine List.filter_eq_self.mpr fun m inQueue => ?_
      have elsewhere : m ∉ s.calls.queues[c] := fun here =>
        other (((q.member m d).mp inQueue).2.symm.trans ((q.member m c).mp here).2)
      simp [mem_queuedIn, elsewhere, -Fin.getElem_fin]
    · have active := ((sessions.gate m).mp gate).1
      rw [queued] at active
      cases active

/-! ## TAG_RESET (R58) -/

/-- What TAG_RESET is refused for: a call concerned is current, or unfinished with a tag in use. -/
theorem tagBusy_iff {d : BitVec 5} : s.tagBusy d = true ↔ ∃ n : SlotId, (d = 0 ∨ s.calls.slots[n].dest = d) ∧
    (s.calls.current = some n ∨ s.calls.slots[n].open = true ∧ s.calls.slots[n].tag.isSome = true) := by
  have slots : (s.calls.slots.toList.any fun x => x.open && x.tag.isSome && (d = 0 || x.dest = d)) = true ↔
      ∃ n : SlotId, (d = 0 ∨ s.calls.slots[n].dest = d) ∧ s.calls.slots[n].open = true ∧
        s.calls.slots[n].tag.isSome = true := by
    simp only [List.any_eq_true, Vector.mem_toList_iff, Bool.and_eq_true, Bool.or_eq_true, decide_eq_true_eq]
    constructor
    · rintro ⟨x, inSlots, tagged, concerned⟩
      obtain ⟨i, lt, rfl⟩ := Vector.mem_iff_getElem.mp inSlots
      exact ⟨⟨i, lt⟩, concerned, tagged⟩
    · rintro ⟨n, concerned, tagged⟩
      exact ⟨_, Vector.getElem_mem n.isLt, tagged, concerned⟩
  have current : (s.calls.current.any fun n => d = 0 || s.calls.slots[n].dest = d) = true ↔
      ∃ n : SlotId, (d = 0 ∨ s.calls.slots[n].dest = d) ∧ s.calls.current = some n := by
    cases s.calls.current with
    | none => simp
    | some m => simp
  rw [State.tagBusy, Bool.or_eq_true, slots, current]
  simp only [and_or_left, exists_or]

/-- Settles O23: the checks of TAG_RESET in order, with the destination as a number. -/
theorem tagResetWhenIdle : Obligations.TagResetWhenIdle := by
  intro arg now s running is d busy
  have dest (lt : d < 31) : ((argLow arg).extractLsb' 0 5).toNat = d := by
    change ((argLow arg).extractLsb' 0 5).toNat = (argLow arg).toNat
    have : (argLow arg).toNat < 31 := lt
    simp only [BitVec.extractLsb'_toNat]
    omega
  have refused (lt : d < 31) : s.tagBusy ((argLow arg).extractLsb' 0 5) = true ↔ busy := by
    rw [tagBusy_iff]
    simp only [Slot.open, Bool.or_eq_true, decide_eq_true_eq]
    simp only [← BitVec.toNat_inj, dest lt]
    rfl
  rw [exec_tagReset now running arg, ← is]
  refine ⟨fun beyond => ?_, fun lt isBusy => ?_, fun lt idle => ⟨_, ?_, fun i => getElem_ofFn_fin _ i⟩⟩
  · rw [cmdTagReset, if_pos (show 31 ≤ (argLow arg).toNat from beyond)]
    rfl
  · rw [cmdTagReset, if_neg (show ¬ 31 ≤ (argLow arg).toNat from Nat.not_le.mpr lt)]
    dsimp only
    rw [if_pos ((refused lt).mpr isBusy)]
    rfl
  · rw [cmdTagReset, if_neg (show ¬ 31 ≤ (argLow arg).toNat from Nat.not_le.mpr lt)]
    dsimp only
    rw [if_neg fun h => idle ((refused lt).mp h)]
    simp only [← BitVec.toNat_inj, dest lt]
    rfl

end Sys2Proof.Calling
end

section
/-! SUBMIT and TABLE_READ (R44, R45, R46, R59, R95, R99, R149, R166). -/

namespace Sys2Proof.Calling

open Sys2Proof.Machine Sys2Proof.Safety Sys2Proof.Linkage

variable {s : State} {n : SlotId} {k : Nat}

/-! ## The checks of R45 -/

/-- Check `k` of R45 fails, as the table of R45 says it. -/
def CheckFails (s : State) (k : Nat) : Prop :=
  let kind := s.host.kind
  let len := s.host.len.toNat
  let i := s.cfg.ident
  (k = 1 ∧ kind ∉ [0#4, 1#4, 2#4, 3#4, 4#4, 6#4]) ∨
  (k = 2 ∧ s.host.dest = 31) ∨
  (k = 3 ∧ s.host.dest = 0 ∧ kind ≠ 0 ∧ kind ≠ 6) ∨
  (k = 4 ∧ ((kind = 0 ∧ 32 < len) ∨ (kind = 1 ∧ len ≠ 2) ∨ (kind = 2 ∧ len ≠ 5) ∨ (kind ∈ [3#4, 4#4, 6#4] ∧ len ≠ 0))) ∨
  (k = 5 ∧ kind ≠ 4 ∧ s.host.idsel = true ∧ i.aliasId = 0) ∨
  (k = 6 ∧ s.host.dest ≠ 0 ∧ (s.host.dest = i.primary ∨ s.host.dest = i.aliasId))

theorem kind_submittable {kind : BitVec 4} : (kind = Config.kindPut || kind = Config.kindFetch || kind = Config.kindSwap ||
    kind = Config.kindClaim || kind = Config.kindRelease || kind = Config.kindRouse) = true ↔
    kind ∈ [0#4, 1#4, 2#4, 3#4, 4#4, 6#4] := by
  revert kind; decide

theorem lengthPermitted_iff {kind : BitVec 4} {len : Nat} (submittable : kind ∈ [0#4, 1#4, 2#4, 3#4, 4#4, 6#4]) :
    lengthPermitted kind len = false ↔
      (kind = 0 ∧ 32 < len) ∨ (kind = 1 ∧ len ≠ 2) ∨ (kind = 2 ∧ len ≠ 5) ∨ (kind ∈ [3#4, 4#4, 6#4] ∧ len ≠ 0) := by
  simp only [List.mem_cons, List.not_mem_nil, or_false] at submittable
  rcases submittable with rfl | rfl | rfl | rfl | rfl | rfl <;> simp [lengthPermitted]

theorem owns_iff {i : Ident} {d : BitVec 5} : i.owns d = true ↔ d ≠ 0 ∧ (d = i.primary ∨ d = i.aliasId) := by
  simp [Ident.owns]

/-- The six checks one by one, as SUBMIT makes them: check 4 for the kinds that pass check 1. -/
theorem checkFails_one : CheckFails s 1 ↔ s.host.kind ∉ [0#4, 1#4, 2#4, 3#4, 4#4, 6#4] := by simp [CheckFails]
theorem checkFails_two : CheckFails s 2 ↔ s.host.dest = 31 := by simp [CheckFails]
theorem checkFails_three : CheckFails s 3 ↔ s.host.dest = 0 ∧ s.host.kind ≠ 0 ∧ s.host.kind ≠ 6 := by simp [CheckFails]
theorem checkFails_four (submittable : ¬ CheckFails s 1) :
    CheckFails s 4 ↔ lengthPermitted s.host.kind s.host.len.toNat = false := by
  rw [lengthPermitted_iff (not_not.mp (checkFails_one.not.mp submittable))]
  simp [CheckFails]
theorem checkFails_five :
    CheckFails s 5 ↔ s.host.kind ≠ 4 ∧ s.host.idsel = true ∧ s.cfg.ident.aliasId = 0 := by simp [CheckFails]
theorem checkFails_six : CheckFails s 6 ↔ s.cfg.ident.owns s.host.dest = true := by
  rw [owns_iff]
  simp [CheckFails]
theorem checkFails_le (fails : CheckFails s k) : 1 ≤ k ∧ k ≤ 6 := by
  unfold CheckFails at fails
  omega

open Classical in
/-- SUBMIT makes the checks in order (R45). -/
theorem submitCheck_eq : s.submitCheck =
    if CheckFails s 1 then some 1 else if CheckFails s 2 then some 2 else if CheckFails s 3 then some 3
    else if CheckFails s 4 then some 4 else if CheckFails s 5 then some 5 else if CheckFails s 6 then some 6 else none := by
  by_cases one : CheckFails s 1
  · have kind := Bool.eq_false_iff.mpr (kind_submittable.not.mpr (checkFails_one.mp one))
    rw [if_pos one, State.submitCheck, kind]
    rfl
  · have kind := kind_submittable.mpr (not_not.mp (checkFails_one.not.mp one))
    rw [if_neg one, State.submitCheck, kind]
    simp only [checkFails_two, checkFails_three, checkFails_four one, checkFails_five, checkFails_six, Bool.not_eq_true']
    rfl

/-- SUBMIT returns the first check that fails (R45). -/
theorem submitCheck_some (fails : CheckFails s k) (first : ∀ j, j < k → ¬ CheckFails s j) : s.submitCheck = some k := by
  obtain ⟨low, high⟩ := checkFails_le fails
  rw [submitCheck_eq]
  interval_cases k <;> simp [fails, first]

open Classical in
theorem submitCheck_none_iff : s.submitCheck = none ↔ ∀ k, ¬ CheckFails s k := by
  refine ⟨fun passes k fails => ?_, fun passes => by simp [submitCheck_eq, passes]⟩
  obtain ⟨first, isFirst, before⟩ := Nat.findX ⟨k, fails⟩
  rw [submitCheck_some isFirst fun j lt => before j lt] at passes
  cases passes

/-- The slot that SUBMIT takes is the lowest that is FREE (R46). -/
theorem freeSlot_none (taken : ∀ n : SlotId, s.calls.slots[n].state ≠ .free) : s.freeSlot = none :=
  List.find?_eq_none.mpr fun n _ => by simpa using taken n

theorem freeSlot_some (free : s.calls.slots[n].state = .free)
    (lowest : ∀ m : SlotId, m < n → s.calls.slots[m].state ≠ .free) : s.freeSlot = some n := by
  refine List.find?_eq_some_iff_getElem.mpr ⟨by simpa using free, n.val, by simp, by simp, fun j lt => ?_⟩
  simpa using lowest ⟨j, lt.trans n.isLt⟩ lt

/-- Settles O19: the first check that fails, and the search for a slot. -/
theorem submitRefused : Obligations.SubmitRefused := by
  intro e now s running is w kind dest len i fails
  rw [exec_submit now running e, ← is]
  refine ⟨fun k failing first => ?_, fun passes taken => ?_, submitCheck_none_iff⟩
  · rw [cmdSubmit, submitCheck_some failing first]
    rfl
  · rw [cmdSubmit, submitCheck_none_iff.mpr passes]
    dsimp only
    rw [freeSlot_none taken]
    rfl

/-! ## The slot that SUBMIT fills (R44, R46) -/

theorem le_of_lengthPermitted {kind : BitVec 4} {len : Nat} (permitted : lengthPermitted kind len = true) : len ≤ 32 := by
  unfold lengthPermitted at permitted
  repeat' split at permitted
  all_goals
    simp only [decide_eq_true_eq, beq_iff_eq] at permitted
    omega

/-- The payload lengths that pass check 4 fit the staging registers. -/
theorem len_of_submitCheck (passes : s.submitCheck = none) : s.host.len.toNat ≤ 32 := by
  have checks := submitCheck_none_iff.mp passes
  exact le_of_lengthPermitted (Bool.not_eq_false _ ▸ (checkFails_four (checks 1)).not.mp (checks 4))

theorem length_flatMap_wordBytes (ws : List Word) : (ws.flatMap wordBytes).length = 4 * ws.length := by
  induction ws with
  | nil => rfl
  | cons w ws ih =>
    rw [List.flatMap_cons, List.length_append, ih, List.length_cons, wordBytes, List.length_cons]
    simp
    omega

/-- Byte `k` of a list of words, each most significant byte first (R7, R44). -/
theorem getElem?_flatMap_wordBytes (ws : List Word) : ∀ {k : Nat} (lt : k / 4 < ws.length),
    (ws.flatMap wordBytes)[k]? = some (ws[k / 4].extractLsb' (24 - 8 * (k % 4)) 8) := by
  induction ws with
  | nil => exact fun lt => absurd lt (Nat.not_lt_zero _)
  | cons w ws ih =>
    intro k lt
    by_cases low : k < 4
    · interval_cases k <;> rfl
    · obtain ⟨j, rfl⟩ : ∃ j, k = j + 4 := ⟨k - 4, by omega⟩
      have next : (j + 4) / 4 = j / 4 + 1 := by omega
      simp only [next, List.length_cons, List.getElem_cons_succ, Nat.add_mod_right] at lt ⊢
      rw [List.flatMap_cons, List.getElem?_append_right (by simp [wordBytes])]
      exact ih (Nat.lt_of_succ_lt_succ lt)

theorem length_stageBytes {h : HostRegs} (few : k ≤ 32) : (h.stageBytes k).length = k := by
  rw [HostRegs.stageBytes, List.length_take, length_flatMap_wordBytes, Vector.length_toList]
  omega

theorem getElem?_stageBytes {h : HostRegs} {i : Nat} (lt : i < k) (few : i < 32) :
    (h.stageBytes k)[i]? = some ((h.stage[i / 4]'(by omega)).extractLsb' (24 - 8 * (i % 4)) 8) := by
  rw [HostRegs.stageBytes, List.getElem?_take_of_lt lt,
    getElem?_flatMap_wordBytes _ (by rw [Vector.length_toList]; omega), Vector.getElem_toList]

/-- What an accepted SUBMIT leaves of doze and events (R46, R146). -/
theorem submitWake_frame (e : Edge) (t : State) : { submitWake e t with doze := s.doze, events := s.events } =
    { t with doze := s.doze, events := s.events } := by
  unfold submitWake
  repeat' split
  all_goals rfl

theorem submitWake_enqueue (e : Edge) (n : SlotId) (s : State) :
    ((submitWake e (enqueue n s)).doze, (submitWake e (enqueue n s)).events) =
      if s.cfg.dozecfg.submitWake = true ∧ s.doze.state = .dozing then
        ((wakeUp .submit s).doze, (wakeUp .submit s).events)
      else if s.cfg.dozecfg.submitWake = true ∧ e = .shared ∧ s.events.edgeWoken = true ∧ s.doze.state = .awake then
        ((addCause .submit s).doze, s.events)
      else (s.doze, s.events) := by
  by_cases wakes : s.cfg.dozecfg.submitWake = true
  · simp only [submitWake, enqueue_frame, wakes, if_true, true_and]
    by_cases dozing : s.doze.state = .dozing
    · rw [if_pos dozing, if_pos dozing]
      rfl
    · rw [if_neg dozing, if_neg dozing]
      split <;> rfl
  · simp [submitWake, enqueue_frame, wakes]

/-- Settles O18: the descriptor of the staging registers in the lowest FREE slot. -/
theorem submitQueuesCall : Obligations.SubmitQueuesCall := by
  intro e now s n running is passes free lowest h c
  have bytes : s.host.len.toNat ≤ 32 := len_of_submitCheck passes
  refine ⟨s.host.descriptor, submitWake e (enqueue n s), ?_, ?_, rfl, length_stageBytes bytes,
    fun k few lt => getElem?_stageBytes lt few, submitWake_enqueue e n s⟩
  · rw [exec_submit now running e, ← is, cmdSubmit, passes]
    dsimp only
    rw [freeSlot_some free lowest]
    rfl
  · rw [submitWake_frame]
    rfl

/-! ## TABLE_READ (R166) -/

theorem tableAddress_eq (s : State) (arg : BitVec 24) : s.tableAddress arg =
    (if arg.getLsbD 23 then s.host.tblTable else arg.extractLsb' 16 2,
      (if arg.getLsbD 23 then s.host.tblIndex else arg.extractLsb' 0 8).toNat) := by
  unfold State.tableAddress argSel
  cases arg.getLsbD 23 <;> rfl

theorem advanceSel_eq (arg : BitVec 24) (s : State) : advanceSel arg s =
    { s with host := { s.host with
        tblIndex := if arg.getLsbD 23 then s.host.tblIndex + 1 else s.host.tblIndex } } := by
  unfold advanceSel argSel
  cases arg.getLsbD 23 <;> rfl

/-- The words of each table at an index (R59, R95, R99, R149). -/
theorem tableEntry_routes (k : Fin 16) : s.tableEntry 0 k.val = some (s.cfg.routes[k].word, 0) := by
  simp [State.tableEntry]
theorem tableEntry_filters (k : Fin 4) : s.tableEntry 1 k.val = some (s.cfg.filters[k].word, 0) := by
  simp [State.tableEntry]
theorem tableEntry_tags (k : Fin 31) : s.tableEntry 2 k.val = some (s.calls.tags[k].setWidth 32, 0) := by
  have word (t : BitVec 4) : 0#28 ++ t = t.setWidth 32 := by revert t; decide
  simp [State.tableEntry, word]
theorem tableEntry_repeats (k : Fin 30) : s.tableEntry 3 k.val = some (repeatWords s.intake.repeats[k]) := by
  simp [State.tableEntry]

theorem tableEntry_beyond {table : BitVec 2} {i : Nat}
    (beyond : (if table = 0 then 16 else if table = 1 then 4 else if table = 2 then 31 else 30) ≤ i) :
    s.tableEntry table i = none := by
  unfold State.tableEntry
  split at beyond
  · rename_i routes
    simpa [routes] using beyond
  · rename_i notRoutes
    split at beyond
    · rename_i filters
      simpa [filters] using beyond
    · rename_i notFilters
      split at beyond
      · rename_i tags
        simpa [tags] using beyond
      · rename_i notTags
        rw [if_neg notRoutes, if_neg notFilters, if_neg notTags]
        simpa using beyond

theorem repeatWords_some (r : RepeatRecord) : repeatWords (some r) =
    (0x80000000#32 ||| (if r.kind = .swap then 0x200#32 else 0) ||| r.tag.setWidth 32, r.value) := by
  have word : ∀ t : BitVec 4, 1#1 ++ 0#21 ++ 0#2 ++ 0#4 ++ t = 0x80000000#32 ||| 0#32 ||| t.setWidth 32 ∧
      1#1 ++ 0#21 ++ 2#2 ++ 0#4 ++ t = 0x80000000#32 ||| 0x200#32 ||| t.setWidth 32 := by decide
  obtain ⟨tag, kind, value⟩ := r
  cases kind
  · exact congrArg (·, value) (word tag).1
  · exact congrArg (·, value) (word tag).2

/-- Settles O25: TABLE_READ at the entry that the argument or TBLSEL addresses. -/
theorem tableReadShowsEntry : Obligations.TableReadShowsEntry := by
  intro arg now s running is sel table i shows limit
  have address : s.tableAddress arg = (table, i.toNat) := tableAddress_eq s arg
  have entry (d0 d1 : Word) (at' : s.tableEntry table i.toNat = some (d0, d1)) : shows d0 d1 := by
    change exec (.tableRead arg) now = _
    rw [exec_tableRead now running arg, ← is, cmdTableRead, address]
    simp only [at', advanceSel_eq]
    rfl
  refine ⟨fun beyond => ?_, fun table0 k here => ?_, fun table1 k here => ?_, fun table2 k here => ?_,
    fun table3 k here => ⟨fun empty => ?_, fun r full => ?_⟩⟩
  · rw [exec_tableRead now running arg, ← is, cmdTableRead, address]
    simp only [tableEntry_beyond beyond]
    rfl
  · exact entry _ _ (by rw [table0, ← here]; exact tableEntry_routes k)
  · exact entry _ _ (by rw [table1, ← here]; exact tableEntry_filters k)
  · exact entry _ _ (by rw [table2, ← here]; exact tableEntry_tags k)
  · exact entry 0 0 (by rw [table3, ← here, tableEntry_repeats, empty]; rfl)
  · exact entry _ _ (by rw [table3, ← here, tableEntry_repeats, full, repeatWords_some])

end Sys2Proof.Calling
end

section
/-! Eligibility and start checks (R50, R51, R71, R74). -/

namespace Sys2Proof.Calling

open Sys2Proof.Machine Sys2Proof.Safety Sys2Proof.Linkage

variable {s : State} {n : SlotId} {k : Nat}

/-! ## Eligibility (R50) -/

theorem linkEn_iff : s.linkEn = true ↔ s.link.act ≠ .off := by simp [State.linkEn]

theorem gateOpenTo_iff : s.gateOpenTo n = true ↔ s.sess.gate = none ∨ s.sess.gate = some n := by simp [State.gateOpenTo]

/-- The conditions of R50 one by one. -/
theorem eligible_iff : s.eligible n = true ↔
    let x := s.calls.slots[n]
    s.calls.queues[x.cls].head? = some n ∧ s.link.act ≠ .off ∧ s.link.quarantine = false ∧ s.doze.state = .awake ∧
    s.hold.timers[x.cls] = none ∧ s.calls.backoff[x.cls] = none ∧
    (x.kind = 3 ∨ x.kind = 4 → s.sess.gate = none ∨ s.sess.gate = some n) ∧
    (x.dest ≠ 0 → x.tag = none → s.interlocked n = false) := by
  have session (p q : Bool) : (!p || q) = true ↔ (p = true → q = true) := by cases p <;> simp
  have interlock (d : BitVec 5) (t : Option (BitVec 4)) (b : Bool) :
      (d = 0 || t.isSome || !b) = true ↔ (d ≠ 0 → t = none → b = false) := by
    cases t <;> simp [or_iff_not_imp_left]
  simp only [State.eligible, Bool.and_eq_true, decide_eq_true_eq, Option.isNone_iff_eq_none, and_assoc, linkEn_iff,
    Bool.not_eq_true', State.held, Option.isSome_eq_false_iff, session, gateOpenTo_iff, interlock, Bool.or_eq_true]

/-! ## Start checks (R51) -/

/-- Start check `k` fails, as the table of R51 says it; the identity that the call sends is that of R16. -/
def StartFails (s : State) (n : SlotId) (k : Nat) : Prop :=
  let x := s.calls.slots[n]
  let own : BitVec 5 → Prop := fun d => d ≠ 0 ∧ (d = s.cfg.ident.primary ∨ d = s.cfg.ident.aliasId)
  let sends : BitVec 5 := if x.kind = 4 then (s.sess.stack.head?.map SessEntry.identity).getD 0
    else if x.idsel then s.cfg.ident.aliasId else s.cfg.ident.primary
  (k = 1 ∧ x.state = .queued ∧ x.kind = 4 ∧ s.sess.stack.head?.map SessEntry.node ≠ some x.dest) ∨
  (k = 2 ∧ (¬ own sends ∨ own x.dest)) ∨
  (k = 3 ∧ x.state = .queued ∧ x.kind = 3 ∧ x.dest ∈ s.sess.stack.map SessEntry.node) ∨
  (k = 4 ∧ x.state = .queued ∧ x.kind = 3 ∧ 6 ≤ s.sess.stack.length)

theorem startFails_one : StartFails s n 1 ↔ s.calls.slots[n].state = .queued ∧ s.calls.slots[n].kind = 4 ∧
    s.sess.stack.head?.map SessEntry.node ≠ some s.calls.slots[n].dest := by simp [StartFails]
theorem startFails_two : StartFails s n 2 ↔ s.cfg.ident.owns (s.identityOf s.calls.slots[n]) = false ∨
    s.cfg.ident.owns s.calls.slots[n].dest = true := by
  rw [owns_iff, ← Bool.not_eq_true, owns_iff]
  simp [StartFails, State.identityOf, Ident.named]
theorem startFails_three : StartFails s n 3 ↔ s.calls.slots[n].state = .queued ∧ s.calls.slots[n].kind = 3 ∧
    (s.sess.stack.any (·.node = s.calls.slots[n].dest)) = true := by simp [StartFails]
theorem startFails_four : StartFails s n 4 ↔ s.calls.slots[n].state = .queued ∧ s.calls.slots[n].kind = 3 ∧
    6 ≤ s.sess.stack.length := by simp [StartFails]

open Classical in
/-- The start checks are made in order (R51). -/
theorem startCheck_eq : s.startCheck n =
    if StartFails s n 1 then some .orderFault else if StartFails s n 2 then some .badIdentity
    else if StartFails s n 3 then some .duplicateClaim else if StartFails s n 4 then some .stackFull else none := by
  simp only [State.startCheck, startFails_one, startFails_two, startFails_three, startFails_four, decide_eq_true_eq,
    Bool.not_eq_true']

/-- Settles O36: the conditions of R50, and the first start check that fails. -/
theorem eligibilityAndStartChecks : Obligations.EligibilityAndStartChecks := by
  intro n s x unfinished
  refine ⟨?_, fun k o listed failing first => ?_, fun passes => ?_⟩
  · rw [eligible_iff]
    simp only [interlocked_false, Slot.open, Bool.or_eq_true, decide_eq_true_eq]
    rfl
  · have fails : StartFails s n k := failing
    have before (j : Nat) (lt : j < k) : ¬ StartFails s n j := first j lt
    rw [startCheck_eq]
    simp only [List.mem_cons, Prod.mk.injEq, List.not_mem_nil, or_false] at listed
    rcases listed with ⟨rfl, rfl⟩ | ⟨rfl, rfl⟩ | ⟨rfl, rfl⟩ | ⟨rfl, rfl⟩ <;> simp [fails, before]
  · have none (k : Nat) : ¬ StartFails s n k := passes k
    simp [startCheck_eq, none]

end Sys2Proof.Calling
end

section
/-! The Event Unit: EVST with its level bits, raised events, counters (R151, R153, R154, R156, R157). -/

namespace Sys2Proof.Calling

open Sys2Proof.Machine Sys2Proof.Safety Sys2Proof.Linkage

variable {s : State}

/-! ## The bits of EVST (R151) -/

theorem levels_cqReady : s.levels.getLsbD 0 = true ↔ s.calls.cq ≠ [] := by
  simp [State.levels]

theorem levels_inboxReady (n : Fin 4) : s.levels.getLsbD (n.val + 1) = true ↔ s.intake.inboxes[n] ≠ [] := by
  have inWord : n.val + 1 < 32 := by omega
  have isLevel : n.val + 1 ≤ 4 := n.isLt
  simp [State.levels, inWord, isLevel]

theorem levels_above {i : Nat} (above : 5 ≤ i) : s.levels.getLsbD i = false := by
  have notFirst : i ≠ 0 := by omega
  have notInbox : ¬ i ≤ 4 := by omega
  simp [State.levels, BitVec.getLsbD_ofFnLE, notFirst, notInbox]

/-- A bit of EVST that is no sticky bit shows its level (R151). -/
theorem evst_unnamed {i : Nat} (unnamed : UnnamedBitsClear s) (other : i < 5 ∨ 27 ≤ i) :
    (s.readReg .evst).getLsbD i = s.levels.getLsbD i := by
  have sticky : s.events.sticky.getLsbD i = false := by
    by_cases inWord : i < 32
    · have masked := congrArg (BitVec.getLsbD · i) unnamed.sticky
      have bit : (0xF800001F#32).getLsbD i = true := by
        have bits : ∀ j : Fin 32, j.val < 5 ∨ 27 ≤ j.val → (0xF800001F#32).getLsbD j.val = true := by decide
        exact bits ⟨i, inWord⟩ other
      simpa [bit] using masked
    · exact BitVec.getLsbD_of_ge _ _ (Nat.not_lt.mp inWord)
  change (s.events.sticky ||| s.levels).getLsbD i = _
  rw [BitVec.getLsbD_or, sticky, Bool.false_or]

/-! ## Raised events and counters, in the order of their bits and registers (R151, R156) -/

def stickyEvents : List Event := [.inboxDeferred, .inboxDropped, .holdIn, .holdOut, .lineStuck, .lineBack, .quarantine,
  .nodeConflict, .answerFault, .unsolicited, .claimTaken, .claimEnded, .leaseLapsed, .sessionFault, .boardSwapped,
  .publishConflict, .dozeEntered, .woken, .cmdError, .configRefused, .counterHalf, .repeatSeen]

def counters : List Counter :=
  [.txParcels, .rxParcels, .rxCheckErrors, .arbLosses, .markFaults, .malformed, .inboxDrops, .repeats]

theorem mem_stickyEvents (v : Event) : v ∈ stickyEvents := by cases v <;> decide

theorem event_mask (v : Event) : v.mask = 1#32 <<< (5 + stickyEvents.idxOf v) := by cases v <;> decide

theorem counter_index (c : Counter) : counters.idxOf c = c.index.val := by cases c <;> decide

theorem count_eq {c : Counter} {i : Fin 8} (place : counters.idxOf c = i.val) (s : State) :
    let old := s.events.counters[i]
    let counted : State := { s with events := { s.events with
      counters := s.events.counters.set i (if old = 65535#16 then 65535#16 else old + 1) } }
    count c s = if old = 32767#16 then raise .counterHalf counted else counted := by
  obtain rfl : c.index = i := Fin.ext ((counter_index c).symm.trans place)
  have saturates (v : BitVec 16) : (if v = 65535#16 then v else v + 1) = if v = 65535#16 then 65535#16 else v + 1 := by
    split
    · rename_i full
      exact full
    · rfl
  simp only [count, raiseIf, decide_eq_true_eq, saturates]

/-- Settles O16: the accesses to EVST, its bits, raised events and counters. -/
theorem eventsAndCountersCleared : Obligations.EventsAndCountersCleared := by
  intro w e now s running is
  refine ⟨?_, ?_, ⟨rfl, levels_cqReady, levels_inboxReady, fun i => levels_above, fun unnamed => ⟨?_, fun n => ?_, fun i above => ?_⟩⟩,
    fun v => ⟨mem_stickyEvents v, ?_⟩, fun c i place => count_eq place s, ?_⟩
  · rw [exec_evstWrite now running, ← is]
    cases e <;> rfl
  · rw [exec_evstReadClear now running, ← is]
    rfl
  · rw [evst_unnamed unnamed (.inl (by omega))]
    exact levels_cqReady
  · rw [evst_unnamed unnamed (.inl (by omega))]
    exact levels_inboxReady n
  · rw [evst_unnamed unnamed (.inr above)]
    exact levels_above (by omega)
  · rw [raise, event_mask]
    rfl
  · rw [exec_countersClear now running, ← is]
    exact ⟨_, rfl, fun i => by simp [cmdCountersClear, okWith], rfl, rfl, rfl, rfl⟩

end Sys2Proof.Calling
end

section
/-! The expiries (R54, R73, R82, R120, R125, R135, R143, R144). -/

namespace Sys2Proof.Calling

open Sys2Proof.Machine Sys2Proof.Safety Sys2Proof.Linkage

variable {s : State}

/-- A hold timer that does not run is stopped already (R120). -/
theorem onHoldExpiry_eq (c : Fin 4) (s : State) : onHoldExpiry c s =
    { s with hold := { s.hold with timers := s.hold.timers.set c none } } := by
  unfold onHoldExpiry
  by_cases held : s.held c = true
  · rw [if_pos held]
    rfl
  · have stopped : s.hold.timers[c.val] = none := by simpa [State.held] using held
    have same : s.hold.timers.set c none = s.hold.timers := by
      rw [← stopped, Vector.set_getElem_self]
    rw [if_neg held, same]

/-- The mirror of Session Stack entry k, counted from the bottom, ends (R73, R76). -/
theorem mirrorExpires_eq {k : Nat} {e : SessEntry} (entry : s.sess.stack[s.sess.stack.length - k]? = some e) :
    mirrorExpires k s = raise .leaseLapsed { s with sess := { s.sess with
      stack := s.sess.stack.set (s.sess.stack.length - k) { e with mirror := none, lapsed := true } } } := by
  rw [mirrorExpires, State.positionFromBottom, List.modify_eq_set_getElem?, entry]
  rfl

/-- What is abandoned leaves the pin as it was. -/
theorem abandon_line (s : State) : (abandon s).link.line = s.link.line := by
  have same : abandon s = setLine s.link.line (abandon s) := abandon_setLine s s.link.line
  rw [same]
  rfl

theorem stuckCanExpire_iff : s.stuckCanExpire = true ↔ s.link.act ≠ .off ∧ s.link.act ≠ .stuck ∧
    (s.link.line.stuck ≠ none ∨ (s.link.line.low = none ∧ s.cfg.linkcfg.stuckLimit ≠ 0)) := by
  simp [State.stuckCanExpire, Option.isSome_iff_ne_none, and_assoc]

/-- Settles O51: the effect of each expiry, and none where its timer does not run. -/
theorem expiriesTakeEffect : Obligations.ExpiriesTakeEffect := by
  intro c k now s running is stuck canStick doze
  refine ⟨?_, ?_, ?_, ?_, fun e m low high entry mirror => ?_, fun stopped => ?_, ?_, ?_, ?_⟩
  · rw [exec_incomingHoldExpiry now running, ← is, onHoldExpiry_eq]
  · rw [exec_backoffExpiry now running, ← is]
    rfl
  · rw [exec_refreshTimerExpiry now running, ← is, onRefreshExpiry]
    cases s.hold.refresh <;> rfl
  · rw [exec_leaseExpiry now running, ← is, onLeaseExpiry]
    cases s.sess.leaseTimer <;> rfl
  · rw [exec_mirrorExpiry now running, ← is, onMirrorExpiry, if_pos, mirrorExpires_eq entry]
    rw [StrandBus.mirrorOf_eq, if_pos ⟨low, high⟩, entry, Option.bind_some, mirror]
    rfl
  · rw [exec_mirrorExpiry now running, ← is, onMirrorExpiry, if_neg]
    rw [StrandBus.mirrorOf_eq]
    split
    · rename_i inStack
      obtain ⟨low, high⟩ := inStack
      cases entry : s.sess.stack[s.sess.stack.length - k]? with
      | none => simp
      | some e => simp [stopped e entry low high]
    · simp
  · rw [exec_dozeIdleExpiry now running, ← is, onDozeIdleExpiry]
    cases s.doze.idle <;> rfl
  · rw [exec_stuckTimerExpiry now running, ← is, onStuckExpiry]
    simp only [stuckCanExpire_iff, abandon_line]
    rfl
  · rw [exec_dozeEntered now running, ← is, enterDoze]
    simp only [holdPending_false_iff]
    rfl

end Sys2Proof.Calling
end

section
/-! The Session Stack and the session gate, kept by what ends, withdraws and starts calls (R51, R60, R70 to R74). -/

namespace Sys2Proof.Safety

open Sys2Proof.Machine Sys2Proof.Calling Sys2Proof.Linkage

variable {s t : State} {n : SlotId} {o : CallOutcome}

/-! ## What the invariant reads -/

/-- The invariant reads state, kind and destination of the slots, the gate, and the nodes of the stack. -/
theorem SessionsCoherent.of_parts (h : SessionsCoherent s)
    (slot : ∀ m : SlotId, t.calls.slots[m].state = s.calls.slots[m].state ∧
      t.calls.slots[m].kind = s.calls.slots[m].kind ∧ t.calls.slots[m].dest = s.calls.slots[m].dest)
    (gate : t.sess.gate = s.sess.gate)
    (nodes : t.sess.stack.map SessEntry.node = s.sess.stack.map SessEntry.node) : SessionsCoherent t := by
  have state (m : SlotId) := (slot m).1
  have kind (m : SlotId) := (slot m).2.1
  have dest (m : SlotId) := (slot m).2.2
  have session (m : SlotId) : isSessionCall t.calls.slots[m] = isSessionCall s.calls.slots[m] := by
    simp only [isSessionCall, kind]
  have length : t.sess.stack.length = s.sess.stack.length := by simpa using congrArg List.length nodes
  have top : t.sess.stack.head?.map SessEntry.node = s.sess.stack.head?.map SessEntry.node := by
    simpa using congrArg List.head? nodes
  refine ⟨?_, ?_, fun m => ?_, fun m => ?_, fun m => ?_⟩
  · rw [length]; exact h.depth
  · rw [nodes]; exact h.nodes
  · rw [gate, state, session]; exact h.gate m
  · rw [gate, kind, dest, nodes, length]; exact h.claim m
  · rw [gate, kind, dest, top]; exact h.release m

theorem SessionsCoherent.of_frame (h : SessionsCoherent s) (calls : t.calls = s.calls) (sess : t.sess = s.sess) :
    SessionsCoherent t :=
  h.of_parts (fun m => by rw [calls]; exact ⟨rfl, rfl, rfl⟩) (by rw [sess]) (by rw [sess])

/-- One slot is rewritten, and its call stays the same call in the same state. -/
theorem SessionsCoherent.of_slot (h : SessionsCoherent s) {y : Slot}
    (slots : t.calls.slots = s.calls.slots.set n y) (state : y.state = s.calls.slots[n].state)
    (kind : y.kind = s.calls.slots[n].kind) (dest : y.dest = s.calls.slots[n].dest)
    (sess : t.sess = s.sess) : SessionsCoherent t := by
  refine h.of_parts (fun m => ?_) (by rw [sess]) (by rw [sess])
  rw [slots, getElem_set_fin]
  split
  · rename_i here
    subst here
    exact ⟨state, kind, dest⟩
  · exact ⟨rfl, rfl, rfl⟩

/-- One slot is rewritten that neither held the gate nor is an ACTIVE call afterwards. -/
theorem SessionsCoherent.of_inactive (h : SessionsCoherent s) {y : Slot}
    (slots : t.calls.slots = s.calls.slots.set n y) (was : s.sess.gate ≠ some n) (inactive : y.state ≠ .active)
    (sess : t.sess = s.sess) : SessionsCoherent t := by
  have slot (m : SlotId) : t.calls.slots[m] = if m = n then y else s.calls.slots[m] := by
    rw [slots, getElem_set_fin]
  have other {m : SlotId} (holds : s.sess.gate = some m) : t.calls.slots[m] = s.calls.slots[m] := by
    rw [slot, if_neg]
    rintro rfl
    exact was holds
  refine ⟨by rw [sess]; exact h.depth, by rw [sess]; exact h.nodes, fun m => ?_, ?_, ?_⟩
  · rw [sess, h.gate, slot]
    split
    · rename_i here
      subst here
      exact iff_of_false (fun active => was ((h.gate m).mpr active)) fun active => inactive active.1
    · rfl
  · rw [sess]
    exact fun m holds => by rw [other holds]; exact h.claim m holds
  · rw [sess]
    exact fun m holds => by rw [other holds]; exact h.release m holds

theorem SessionsCoherent.gate_ne (h : SessionsCoherent s) (inactive : s.calls.slots[n].state ≠ .active) :
    s.sess.gate ≠ some n := fun holds => inactive ((h.gate n).mp holds).1

/-- With no call in any slot, an empty stack and an open gate. -/
theorem sessionsCoherent_clear (calls : s.calls = {}) (sess : s.sess = {}) : SessionsCoherent s := by
  have slot (m : SlotId) : s.calls.slots[m] = {} := by rw [calls]; exact Vector.getElem_replicate ..
  refine ⟨by rw [sess]; exact Nat.zero_le _, by rw [sess]; exact .nil, fun m => ?_, ?_, ?_⟩
  · rw [sess, slot]
    exact iff_of_false nofun nofun
  · rw [sess]; nofun
  · rw [sess]; nofun

theorem sessionCall_iff {x : Slot} :
    isSessionCall x = true ↔ x.kind = Config.kindClaim ∨ x.kind = Config.kindRelease := by simp [isSessionCall]

/-! ## Outcomes (R60, R72, R74) -/

/-- The outcome of the call that holds the gate releases it; a push meets the start checks of R51, which still hold. -/
theorem SessionsCoherent.closed_holder (h : SessionsCoherent s) (holds : s.sess.gate = some n) (source : BitVec 5) :
    SessionsCoherent (closeCall n o source s) := by
  have gate : (closeCall n o source s).sess.gate = none := by
    rw [(closeCall_spec s n o source).2, if_pos holds]
  have released {m : SlotId} {p : Prop} (is : (closeCall n o source s).sess.gate = some m) : p := by
    rw [gate] at is
    cases is
  have stack := closeCall_stack s n o source
  have legal : (closeCall n o source s).sess.stack.length ≤ Config.stackLimit ∧
      ((closeCall n o source s).sess.stack.map SessEntry.node).Nodup := by
    rw [stack]
    dsimp only
    split
    · rename_i push
      obtain ⟨room, fresh⟩ := h.claim n holds push.1
      rw [pushSession_stack]
      exact ⟨room, List.nodup_cons.mpr ⟨fresh, h.nodes⟩⟩
    · split
      · rw [List.map_tail, List.length_tail]
        exact ⟨(Nat.sub_le ..).trans h.depth, h.nodes.sublist (List.tail_sublist _)⟩
      · exact ⟨h.depth, h.nodes⟩
  refine ⟨legal.1, legal.2, fun m => ?_, fun m => released, fun m => released⟩
  rw [gate, StrandBus.closeCall_slots]
  split
  · exact iff_of_false nofun nofun
  · rename_i other
    exact iff_of_false nofun fun active => other (Option.some.inj (((h.gate m).mpr active).symm.trans holds))

/-- Only an ACTIVE call pushes or pops, which holds the gate then (R71). -/
theorem SessionsCoherent.closed (h : SessionsCoherent s)
    (active : o = .acked ∨ o = .refused → s.calls.slots[n].state = .active) (source : BitVec 5) :
    SessionsCoherent (closeCall n o source s) := by
  by_cases holds : s.sess.gate = some n
  · exact h.closed_holder holds source
  · have none (kind : isSessionCall s.calls.slots[n] = true) (answered : o = .acked ∨ o = .refused) : False :=
      holds ((h.gate n).mpr ⟨active answered, kind⟩)
    have stack : (closeCall n o source s).sess.stack = s.sess.stack := by
      rw [closeCall_stack]
      dsimp only
      split
      · rename_i push
        exact (none (sessionCall_iff.mpr (.inl push.1)) (.inl push.2)).elim
      · split
        · rename_i pop
          exact (none (sessionCall_iff.mpr (.inr pop.1)) (pop.2.imp_right And.left)).elim
        · rfl
    obtain ⟨calls, sess⟩ := closeCall_spec s n o source
    have same : (closeCall n o source s).sess = s.sess := by rw [sess, stack, if_neg holds]
    exact h.of_inactive (congrArg CallEngine.slots calls) holds nofun same

theorem SessionsCoherent.closedChain (fuel : Nat) : ∀ {s : State} {n : SlotId} {o : CallOutcome} (source : BitVec 5),
    SessionsCoherent s → (o = .acked ∨ o = .refused → s.calls.slots[n].state = .active) →
    SessionsCoherent (closeChain fuel n o source s) := by
  induction fuel with
  | zero => exact fun _ h _ => h
  | succ fuel ih =>
    intro s n o source h active
    have first := h.closed active source
    unfold closeChain
    dsimp only
    split
    · split
      · exact ih 0 first (by simp)
      · exact first
    · exact first

/-- A final outcome with the chain that it breaks: the calls behind end CHAIN_BROKEN, which neither pushes nor pops. -/
theorem SessionsCoherent.decided (h : SessionsCoherent s)
    (active : o = .acked ∨ o = .refused → s.calls.slots[n].state = .active) (source : BitVec 5) :
    SessionsCoherent (decideOutcome n o source s) := closedChain _ source h active

theorem SessionsCoherent.decided_other (h : SessionsCoherent s) (acked : o ≠ .acked) (refused : o ≠ .refused)
    (source : BitVec 5) : SessionsCoherent (decideOutcome n o source s) :=
  h.decided (fun answered => answered.elim (absurd · acked) (absurd · refused)) source

/-! ## Reports (R52 to R55, R66, R73) -/

theorem SessionsCoherent.endWith (h : SessionsCoherent s) {y : Slot} (state : y.state = s.calls.slots[n].state)
    (kind : y.kind = s.calls.slots[n].kind) (dest : y.dest = s.calls.slots[n].dest) :
    SessionsCoherent (StrandBus.endWith n y s) :=
  h.of_slot (n := n) rfl state kind dest rfl

theorem SessionsCoherent.callLost (h : SessionsCoherent s) : SessionsCoherent (callLost s) := by
  cases current : s.calls.current with
  | none => simpa only [Machine.callLost, current] using h
  | some n =>
    rw [StrandBus.callLost_eq current]
    have ended := h.endWith (n := n)
      (y := { s.calls.slots[n] with losses := min 255 (s.calls.slots[n].losses + 1) }) rfl rfl rfl
    have counted := ended.of_frame (t := StrandBus.ageEnded (StrandBus.endWith n _ s)) rfl rfl
    dsimp only
    split
    · exact counted.decided_other (o := .cancelled) nofun nofun 0
    · split
      · exact counted.decided_other (o := .starved) nofun nofun 0
      · exact counted

theorem SessionsCoherent.callAbandoned (h : SessionsCoherent s) : SessionsCoherent (callAbandoned s) := by
  have ended : SessionsCoherent (endCurrent s) := h.of_parts (fun _ => ⟨rfl, rfl, rfl⟩) rfl rfl
  unfold Machine.callAbandoned
  split
  · exact h
  · dsimp only
    split
    · exact ended.decided_other (o := .cancelled) nofun nofun 0
    · exact ended

theorem SessionsCoherent.callWithdrawn (h : SessionsCoherent s) : SessionsCoherent (callWithdrawn s) := by
  unfold Machine.callWithdrawn
  split
  · exact h
  · rename_i n _
    have ended : SessionsCoherent (endCurrent (updSlot n (fun x => { x with attempts := x.attempts - 1 }) s)) :=
      h.of_slot (n := n) rfl rfl rfl rfl rfl
    dsimp only
    split
    · exact ended.decided_other (o := .cancelled) nofun nofun 0
    · exact ended

/-- A restart of mirrors leaves nodes and gate. -/
theorem restartMirrors_nodes (own : Parcel) (s : State) : (restartMirrors own s).sess.gate = s.sess.gate ∧
    (restartMirrors own s).sess.stack.map SessEntry.node = s.sess.stack.map SessEntry.node := by
  have node (e : SessEntry) : (if e.renewedBy own then
      { e with mirror := s.mirrorFor e.lease, lapsed := (s.mirrorFor e.lease).isNone } else e).node = e.node := by
    split <;> rfl
  simp only [restartMirrors, raiseIf_frame, setStack_sess, List.map_map, true_and]
  exact List.map_congr_left fun e _ => node e

/-- An attempt end completes the current call or leaves it ACTIVE; the push and the pop need that it was ACTIVE. -/
theorem SessionsCoherent.attemptEnd (h : SessionsCoherent s)
    (active : ∀ m : SlotId, s.calls.current = some m → s.calls.slots[m].state = .active) (own : Parcel)
    (r : ExchangeResult) : SessionsCoherent (attemptEnd own r s) := by
  cases current : s.calls.current with
  | none => simpa only [Machine.attemptEnd, current] using h
  | some n =>
    have isActive := active n current
    have slot (y : Slot) (u : State) : (StrandBus.endWith n y u).calls.slots[n] = y :=
      (getElem_set_fin ..).trans (if_pos rfl)
    by_cases acked : ∃ bytes, r = .acked bytes
    · obtain ⟨bytes, rfl⟩ := acked
      rw [StrandBus.attemptEnd_acked current]
      obtain ⟨gate, nodes⟩ := restartMirrors_nodes own s
      have restarted : SessionsCoherent (restartMirrors own s) := h.of_parts (fun m => by simp) gate nodes
      have ended := restarted.endWith (n := n) (y := { s.calls.slots[n] with reason := none, answer := bytes })
        (by simp) (by simp) (by simp)
      exact (ended.decided (fun _ => by rw [slot]; exact isActive) own.source).of_frame rfl rfl
    · rw [StrandBus.attemptEnd_of_not_acked current own r fun bytes is => acked ⟨bytes, is⟩]
      have ended := h.endWith (n := n) (y := { s.calls.slots[n] with reason := r.reason }) rfl rfl rfl
      have decided (o : CallOutcome) : SessionsCoherent (decideOutcome n o own.source
          (StrandBus.endWith n { s.calls.slots[n] with reason := r.reason } s)) :=
        ended.decided (fun _ => by rw [slot]; exact isActive) own.source
      refine SessionsCoherent.of_frame (s := ite _ _ _) ?_ rfl rfl
      split
      · exact decided _
      · split
        · exact decided _
        · split
          · exact ended.of_parts (fun _ => ⟨rfl, rfl, rfl⟩) rfl rfl
          · exact decided _

theorem SessionsCoherent.reportLost (h : SessionsCoherent s) (owner : Owner) :
    SessionsCoherent (reportLost owner s) := by
  cases owner with
  | call => exact h.callLost
  | hold => exact h

theorem SessionsCoherent.reportBroken (h : SessionsCoherent s)
    (active : ∀ m : SlotId, s.calls.current = some m → s.calls.slots[m].state = .active) (owner : Owner)
    (p : Parcel) (b : BrokenBy) : SessionsCoherent (reportBroken owner p b s) := by
  cases owner with
  | call => exact h.attemptEnd active p _
  | hold => exact h

theorem SessionsCoherent.reportSent (h : SessionsCoherent s)
    (active : ∀ m : SlotId, s.calls.current = some m → s.calls.slots[m].state = .active) (owner : Owner)
    (p : Parcel) : SessionsCoherent (reportSent owner p s) := by
  cases owner with
  | call => exact h.attemptEnd active p _
  | hold k => exact h.of_frame (by simp [Machine.reportSent]) (by simp [Machine.reportSent])

theorem SessionsCoherent.abandon (h : SessionsCoherent s) : SessionsCoherent (abandon s) := by
  unfold Machine.abandon
  split
  · rename_i owner _ _
    cases owner with
    | call => exact h.callAbandoned
    | hold => exact h
  · rename_i owner _ _
    cases owner with
    | call => exact h.callWithdrawn
    | hold => exact h
  · exact h.callWithdrawn
  · exact h.callWithdrawn
  · exact h

/-! ## Selection (R50, R51, R71) -/

theorem failStart_sessions (h : SessionsCoherent s) (check : s.startCheck n = some o) :
    SessionsCoherent (failStart n o s) := by
  obtain ⟨acked, refused⟩ := startCheck_outcome check
  exact (h.decided_other (n := n) acked refused 0).of_frame (by simp [failStart]) (by simp [failStart])

theorem startCheck_passes (check : s.startCheck n = none) :
    ¬ StartFails s n 1 ∧ ¬ StartFails s n 3 ∧ ¬ StartFails s n 4 := by
  rw [startCheck_eq] at check
  repeat' split at check
  case isFalse.isFalse.isFalse.isFalse order identity duplicate full => exact ⟨order, duplicate, full⟩
  all_goals cases check

/-- The start checks of R51 hold for a CLAIM or RELEASE that starts: they have just been made for a QUEUED call, and
hold still for an ACTIVE one. -/
theorem startChecks_hold (h : SessionsCoherent s) (isOpen : s.calls.slots[n].open = true)
    (check : s.startCheck n = none) :
    (s.calls.slots[n].kind = Config.kindClaim → s.sess.stack.length < Config.stackLimit ∧
      s.calls.slots[n].dest ∉ s.sess.stack.map SessEntry.node) ∧
    (s.calls.slots[n].kind = Config.kindRelease →
      s.sess.stack.head?.map SessEntry.node = some s.calls.slots[n].dest) := by
  simp only [Slot.open, Bool.or_eq_true, decide_eq_true_eq] at isOpen
  rcases isOpen with queued | active
  · obtain ⟨order, duplicate, full⟩ := startCheck_passes check
    rw [startFails_one] at order
    rw [startFails_three] at duplicate
    rw [startFails_four] at full
    refine ⟨fun claim => ⟨?_, ?_⟩, fun release => ?_⟩
    · exact Nat.lt_of_not_le fun deep => full ⟨queued, claim, deep⟩
    · exact fun known => duplicate ⟨queued, claim, by simpa using known⟩
    · by_contra wrong
      exact order ⟨queued, release, wrong⟩
  · have holds (session : isSessionCall s.calls.slots[n] = true) := (h.gate n).mpr ⟨active, session⟩
    exact ⟨fun claim => h.claim n (holds (sessionCall_iff.mpr (.inl claim))) claim,
      fun release => h.release n (holds (sessionCall_iff.mpr (.inr release))) release⟩

/-- A CLAIM or RELEASE starts with the gate open to it and takes it; no other call touches the gate. -/
theorem SessionsCoherent.started (h : SessionsCoherent s) (isOpen : s.calls.slots[n].open = true)
    (able : s.eligible n = true) (check : s.startCheck n = none) : SessionsCoherent (startCall n s) := by
  have slots : (startCall n s).calls.slots = s.calls.slots.set n { s.calls.slots[n] with state := .active } := by
    simp only [startCall, beginContention_frame]
    rfl
  have slot (m : SlotId) : (startCall n s).calls.slots[m] =
      if m = n then { s.calls.slots[n] with state := .active } else s.calls.slots[m] := by
    rw [slots, getElem_set_fin]
  have sess : (startCall n s).sess = { s.sess with
      gate := if isSessionCall s.calls.slots[n] = true then some n else s.sess.gate } := by
    simp only [startCall, beginContention_frame, isSessionCall, Bool.or_eq_true, decide_eq_true_eq]
    rfl
  obtain ⟨claim, release⟩ := startChecks_hold h isOpen check
  obtain ⟨-, -, -, -, -, -, gateOpen, -⟩ := eligible_iff.mp able
  by_cases session : isSessionCall s.calls.slots[n] = true
  · have free : s.sess.gate = none ∨ s.sess.gate = some n := gateOpen (sessionCall_iff.mp session)
    rw [if_pos session] at sess
    have holder {m : SlotId} (holds : (startCall n s).sess.gate = some m) : m = n := by
      rw [sess] at holds
      exact (Option.some.inj holds).symm
    refine ⟨by rw [sess]; exact h.depth, by rw [sess]; exact h.nodes, fun m => ?_, fun m holds => ?_,
      fun m holds => ?_⟩
    · rw [slot]
      split
      · rename_i here
        rw [here, sess]
        exact iff_of_true rfl ⟨rfl, session⟩
      · rename_i other
        refine iff_of_false (fun holds => other (holder holds)) fun active => ?_
        have holds := (h.gate m).mpr active
        rw [holds] at free
        exact free.elim nofun fun same => other (Option.some.inj same)
    · obtain rfl := holder holds
      rw [slot, if_pos rfl, sess]
      exact claim
    · obtain rfl := holder holds
      rw [slot, if_pos rfl, sess]
      exact release
  · have notHolder : s.sess.gate ≠ some n := fun holds => session ((h.gate n).mp holds).2
    rw [if_neg session] at sess
    have other {m : SlotId} (holds : s.sess.gate = some m) : (startCall n s).calls.slots[m] = s.calls.slots[m] := by
      rw [slot, if_neg]
      rintro rfl
      exact notHolder holds
    refine ⟨by rw [sess]; exact h.depth, by rw [sess]; exact h.nodes, fun m => ?_, ?_, ?_⟩
    · rw [sess, slot]
      split
      · rename_i here
        subst here
        exact iff_of_false notHolder fun active => session active.2
      · exact h.gate m
    · rw [sess]
      exact fun m holds => by rw [other holds]; exact h.claim m holds
    · rw [sess]
      exact fun m holds => by rw [other holds]; exact h.release m holds

theorem SessionsCoherent.selectLoop (fuel : Nat) : ∀ {s : State}, QueuesCoherent s → callPhase s = none →
    SessionsCoherent s → SessionsCoherent (selectLoop fuel s) := by
  induction fuel with
  | zero => exact fun _ _ h => h
  | succ fuel ih =>
    intro s q idle h
    unfold Machine.selectLoop
    split
    · exact h.of_frame (by simp) (by simp)
    · split
      · exact h
      · rename_i n call
        have first := (StrandBus.callCandidate_iff s n).mp call
        split
        · rename_i o check
          exact ih (q.moves (moves_failStart q idle first check)) (by simpa [callPhase, failStart] using idle)
            (failStart_sessions h check)
        · rename_i check
          have able : s.eligible n = true := by
            obtain ⟨_, able⟩ | ⟨_, _, ⟨_, able⟩, _⟩ := first <;> exact able
          exact h.started (q.open_of_head first.head).1 able check

theorem SessionsCoherent.endEvent (h : SessionsCoherent s) (q : QueuesCoherent s) : SessionsCoherent (endEvent s) := by
  have selected : SessionsCoherent (select s) := by
    unfold select
    split
    · rename_i free
      exact selectLoop _ q (by rw [callPhase, free.1]; rfl) h
    · exact h
  exact selected.of_frame (by simp [Machine.endEvent]) (by simp [Machine.endEvent])

end Sys2Proof.Safety
end

section
/-! The Session Stack and the session gate, kept by every row of the table (R70, R71). -/

namespace Sys2Proof.Safety

open Sys2Proof.Machine Sys2Proof.Calling Sys2Proof.Linkage

variable {s t : State} {n : SlotId}

/-! ## Line events. Of these only reports to the Call Engine change a session. -/

theorem SessionsCoherent.onLeadMark (h : SessionsCoherent s) : SessionsCoherent (onLeadMark s) := by
  unfold Machine.onLeadMark
  repeat' split
  all_goals exact h.of_frame (by simp) (by simp)

theorem SessionsCoherent.onContentionWon (h : SessionsCoherent s) : SessionsCoherent (onContentionWon s) := by
  have won : SessionsCoherent (callWon s) := by
    cases current : s.calls.current with
    | none => simpa only [callWon, current] using h
    | some n => exact h.of_slot (congrArg CallEngine.slots (callWon_calls current)) rfl rfl rfl (by simp)
  unfold Machine.onContentionWon
  split
  · rename_i owner _ _
    cases owner with
    | call => exact won.of_frame (by simp) (by simp)
    | hold => exact h.of_frame (by simp) (by simp)
  · exact h

theorem SessionsCoherent.onArbitrationLoss (h : SessionsCoherent s) : SessionsCoherent (onArbitrationLoss s) := by
  have counted : SessionsCoherent (count .arbLosses s) := h.of_frame (by simp) (by simp)
  unfold Machine.onArbitrationLoss
  split
  · rename_i owner _ _
    exact (counted.reportLost owner).of_frame (by simp) (by simp)
  · exact h

theorem SessionsCoherent.onBitClash (h : SessionsCoherent s) (q : QueuesCoherent s) (b : Nat) :
    SessionsCoherent (onBitClash b s) := by
  unfold Machine.onBitClash
  split
  · rename_i owner p _
    split
    · have calls : (countFault (if owner = .call ∧ inTagField b then nodeConflict s else s)).calls = s.calls := by
        split <;> simp
      have sess : (countFault (if owner = .call ∧ inTagField b then nodeConflict s else s)).sess = s.sess := by
        split <;> simp
      have counted := h.of_frame calls sess
      exact (counted.reportBroken (by rw [calls]; exact q.current) owner p .bitClash).of_frame (by simp) (by simp)
    · exact h
  · split <;> exact h.of_frame (by simp) (by simp)
  · exact h

theorem SessionsCoherent.onMarkFault (h : SessionsCoherent s) (q : QueuesCoherent s) :
    SessionsCoherent (onMarkFault s) := by
  have marked : SessionsCoherent (count .markFaults s) := h.of_frame (by simp) (by simp)
  have counted : SessionsCoherent (countFault (count .markFaults s)) := h.of_frame (by simp) (by simp)
  unfold Machine.onMarkFault
  split
  · rename_i owner _ _
    exact (marked.reportLost owner).of_frame (by simp) (by simp)
  · rename_i owner p _
    exact (counted.reportBroken (by simpa using q.current) owner p .markFault).of_frame (by simp) (by simp)
  · exact counted.of_frame (by simp) (by simp)
  · exact h

theorem SessionsCoherent.onSentCleanly (h : SessionsCoherent s) (q : QueuesCoherent s) :
    SessionsCoherent (onSentCleanly s) := by
  have sent : SessionsCoherent (sentOk s) := h.of_frame (by simp) (by simp)
  unfold Machine.onSentCleanly
  split
  · rename_i owner p _
    dsimp only
    split
    · exact sent.of_frame (by simp) (by simp)
    · exact (sent.reportSent (by simpa using q.current) owner p).of_frame (by simp) (by simp)
  · exact h

theorem SessionsCoherent.onAnswerSent (h : SessionsCoherent s) : SessionsCoherent (onAnswerSent s) := by
  unfold Machine.onAnswerSent
  split <;> exact h.of_frame (by simp) (by simp)

theorem SessionsCoherent.onAnswerStart (h : SessionsCoherent s) : SessionsCoherent (onAnswerStart s) := by
  unfold Machine.onAnswerStart
  repeat' split
  all_goals exact h.of_frame (by simp) (by simp)

theorem SessionsCoherent.noAnswer (h : SessionsCoherent s) (q : QueuesCoherent s) (p : Parcel) :
    SessionsCoherent (rowHigh (toIdle .busy (Machine.attemptEnd p .noAnswer s))) :=
  (h.attemptEnd q.current p .noAnswer).of_frame (by simp) (by simp)

theorem SessionsCoherent.onWindowExpiry (h : SessionsCoherent s) (q : QueuesCoherent s) :
    SessionsCoherent (onWindowExpiry s) := by
  unfold Machine.onWindowExpiry
  repeat' split
  · exact h
  · exact h.noAnswer q _
  · exact h

theorem SessionsCoherent.onQuietGapEnd (h : SessionsCoherent s) : SessionsCoherent (onQuietGapEnd s) := by
  unfold Machine.onQuietGapEnd
  split <;> exact h.of_frame (by simp) (by simp)

theorem SessionsCoherent.onLineHigh (h : SessionsCoherent s) : SessionsCoherent (onLineHigh s) := by
  unfold Machine.onLineHigh
  split <;> exact h.of_frame (by simp) (by simp)

theorem SessionsCoherent.onStrayPulse (h : SessionsCoherent s) (q : QueuesCoherent s) (b : Bool) :
    SessionsCoherent (onStrayPulse b s) := by
  unfold Machine.onStrayPulse
  split
  · exact h.of_frame (by simp) (by simp)
  · split
    · exact h.noAnswer q _
    · exact h.of_frame (by simp) (by simp)
  all_goals exact h.of_frame (by simp) (by simp)

/-! ## The end of a reception. Intake leaves the caller's side of the Session Unit (R88). -/

theorem finishCall_gate (p : Parcel) (v : Served) (s : State) : (finishCall p v s).2.sess.gate = s.sess.gate := by
  simp only [finishCall, updateRecord_frame, renewLease]
  split <;> rfl

theorem serveUnicast_gate (hit : IdHit) (p : Parcel) (s : State) :
    (serveUnicast hit p s).2.sess.gate = s.sess.gate := by
  unfold serveUnicast
  repeat' split
  all_goals simp [finishCall_gate]

theorem serveClaim_gate (p : Parcel) (s : State) : (serveClaim p s).2.sess.gate = s.sess.gate := by
  unfold serveClaim
  repeat' split
  all_goals simp

theorem serveRelease_gate (p : Parcel) (s : State) : (serveRelease p s).2.sess.gate = s.sess.gate := by
  unfold serveRelease
  split <;> simp

theorem intakeFromClaim_gate (hit : IdHit) (p : Parcel) (s : State) :
    (intakeFromClaim hit p s).2.sess.gate = s.sess.gate := by
  unfold intakeFromClaim
  repeat' split
  all_goals simp [finishCall_gate, serveClaim_gate, serveRelease_gate, serveUnicast_gate]

theorem intakeRouse_gate (hit : IdHit) (p : Parcel) (s : State) :
    (intakeRouse hit p s).2.sess.gate = s.sess.gate := by
  unfold intakeRouse
  dsimp only
  split <;> simp [finishCall_gate]

theorem intakeDozing_gate (hit : IdHit) (p : Parcel) (s : State) :
    (intakeDozing hit p s).2.sess.gate = s.sess.gate := by
  unfold intakeDozing
  split
  · simp [intakeFromClaim_gate]
  · split <;> rfl

theorem intake_gate (p : Parcel) (s : State) : (intake p s).2.sess.gate = s.sess.gate := by
  unfold intake
  dsimp only
  repeat' split
  all_goals simp [intakeRouse_gate, intakeDozing_gate, intakeFromClaim_gate]

theorem dispose_gate (w : Bool) (r : RxResult) (s : State) : (dispose w r s).2.sess.gate = s.sess.gate := by
  unfold dispose
  repeat' split
  all_goals simp [intake_gate]

theorem SessionsCoherent.endAttempt (h : SessionsCoherent s) (q : QueuesCoherent s) (w : Option Parcel) (r : RxResult) :
    SessionsCoherent (StrandBus.endAttempt w r (countReception r s)) := by
  have counted : SessionsCoherent (countReception r s) := h.of_frame (by simp) (by simp)
  cases w with
  | none => exact counted
  | some own =>
    have active : ∀ m : SlotId, (countReception r s).calls.current = some m →
        (countReception r s).calls.slots[m].state = .active := by simpa using q.current
    simp only [StrandBus.endAttempt, endWindow]
    split
    · exact counted.attemptEnd active own _
    · rename_i code _
      have faulted : SessionsCoherent (raise .answerFault { countReception r s with
          link := { (countReception r s).link with lastFault := code } }) := counted.of_frame rfl rfl
      exact faulted.attemptEnd active own _

theorem SessionsCoherent.receptionEnds (h : SessionsCoherent s) (q : QueuesCoherent s) (w : Option Parcel)
    (r : RxResult) : SessionsCoherent (receptionEnds w r s) := by
  have ended := h.endAttempt q w r
  have disposed : SessionsCoherent (dispose w.isSome r (StrandBus.endAttempt w r (countReception r s))).2 :=
    ended.of_parts (fun m => by simp) (dispose_gate ..) (by simp)
  obtain ⟨-, sess, -⟩ := receptionEnds_blocks w r s
  exact disposed.of_frame (by rw [(receptionEnds_calls w r s).1]; simp) sess

theorem SessionsCoherent.line {c : Instr} {f : State → State} (is : lineEffect c = some f) (h : SessionsCoherent s)
    (q : QueuesCoherent s) : SessionsCoherent (f s) := by
  cases c <;> cases is
  case leadMark => exact h.onLeadMark
  case parcelReceived items => exact onParcel_induction items h fun w r _ _ => h.receptionEnds q w r
  case contentionWon => exact h.onContentionWon
  case arbitrationLoss => exact h.onArbitrationLoss
  case bitClash b => exact h.onBitClash q b
  case markFault => exact h.onMarkFault q
  case sentCleanly => exact h.onSentCleanly q
  case answerSent => exact h.onAnswerSent
  case answerStart => exact h.onAnswerStart
  case answerWindowExpiry => exact h.onWindowExpiry q
  case quietGapEnd => exact h.onQuietGapEnd
  case lineHigh => exact h.onLineHigh
  case strayPulse b => exact h.onStrayPulse q b

/-! ## Expiries, and one HCLK edge to the next -/

theorem nodes_of_claims (same : claims t = claims s) :
    t.sess.stack.map SessEntry.node = s.sess.stack.map SessEntry.node := by
  simpa [claims, claimOf, Function.comp_def] using congrArg (List.map Prod.fst) same

theorem SessionsCoherent.effect (h : SessionsCoherent s) (e : Expiry) : SessionsCoherent (e.effect s) := by
  cases e with
  | stuck =>
    simp only [Expiry.effect, onStuckExpiry]
    split
    · exact h.abandon.of_frame rfl rfl
    · exact h
  | hold c =>
    simp only [Expiry.effect, onHoldExpiry]
    split <;> exact h.of_frame rfl rfl
  | backoff c => exact h.of_parts (fun _ => ⟨rfl, rfl, rfl⟩) rfl rfl
  | refresh =>
    simp only [Expiry.effect, onRefreshExpiry]
    split <;> exact h.of_frame rfl rfl
  | lease =>
    simp only [Expiry.effect, onLeaseExpiry]
    split <;> exact h.of_parts (fun _ => ⟨rfl, rfl, rfl⟩) rfl rfl
  | mirror k =>
    refine h.of_parts (fun m => ?_) ?_ (nodes_of_claims (claims_effect (.mirror k) s))
    · simp only [Expiry.effect, onMirrorExpiry]
      split <;> exact ⟨rfl, rfl, rfl⟩
    · simp only [Expiry.effect, onMirrorExpiry]
      split <;> rfl
  | dozeIdle =>
    simp only [Expiry.effect, onDozeIdleExpiry]
    split <;> exact h.of_frame rfl rfl

theorem SessionsCoherent.nextEdge (h : SessionsCoherent s) : SessionsCoherent (nextEdge s) := by
  rw [StrandBus.nextEdge_eq, StrandBus.cycled_eq]
  exact h.of_parts (fun _ => ⟨rfl, rfl, rfl⟩) rfl (by simp [StrandBus.onEdge])

/-! ## Commands -/

theorem SessionsCoherent.cmdSubmit (h : SessionsCoherent s) (e : Edge) : SessionsCoherent (cmdSubmit e s).2.2 := by
  unfold Machine.cmdSubmit
  split
  · exact h
  · split
    · exact h
    · rename_i n found
      have free : s.calls.slots[n].state = .free := by simpa using List.find?_some found
      have queued : SessionsCoherent (enqueue n s) :=
        h.of_inactive (n := n) rfl (h.gate_ne (by rw [free]; nofun)) nofun rfl
      exact queued.of_frame (submitWake_calls e _) (by simp [okWith])

theorem SessionsCoherent.cmdCancel (h : SessionsCoherent s) (a : BitVec 24) : SessionsCoherent (cmdCancel a s).2.2 := by
  have cancelled (n : SlotId) : SessionsCoherent (decideOutcome n .cancelled 0 s) :=
    h.decided_other (o := .cancelled) nofun nofun 0
  unfold Machine.cmdCancel
  repeat' split
  · exact h
  · exact cancelled _
  · exact h.of_slot rfl rfl rfl rfl rfl
  · exact cancelled _
  · exact h

theorem SessionsCoherent.cmdRetire (h : SessionsCoherent s) (a : BitVec 24) : SessionsCoherent (cmdRetire a s).2.2 := by
  unfold Machine.cmdRetire
  repeat' split
  · exact h
  · rename_i n _ harvested
    exact h.of_inactive (n := n) rfl (h.gate_ne (by rw [harvested]; nofun)) nofun rfl
  · exact h

/-- The call of a completion record is DONE, so it does not hold the gate (R62). -/
theorem SessionsCoherent.cmdCqPop (h : SessionsCoherent s) (q : QueuesCoherent s) :
    SessionsCoherent (cmdCqPop s).2.2 := by
  unfold Machine.cmdCqPop
  split
  · exact h
  · rename_i r rest head
    have done : s.calls.slots[r.slot].state = .done := (q.records r.slot).mp (by simp [head])
    exact h.of_inactive (n := r.slot) rfl (h.gate_ne (by rw [done]; nofun)) nofun rfl

theorem SessionsCoherent.cmdFlushClass (h : SessionsCoherent s) (a : BitVec 24) :
    SessionsCoherent (cmdFlushClass a s).2.2 := by
  have flushed (l : List SlotId) : ∀ {s : State}, SessionsCoherent s →
      SessionsCoherent (l.foldl (fun t n => decideOutcome n .flushed 0 t) s) := by
    induction l with
    | nil => exact id
    | cons n l ih => exact fun h => ih (h.decided_other (o := .flushed) nofun nofun 0)
  unfold Machine.cmdFlushClass
  split
  · exact h
  · exact flushed _ h

theorem SessionsCoherent.cmdLinkRestart (h : SessionsCoherent s) : SessionsCoherent (cmdLinkRestart s).2.2 := by
  have released : SessionsCoherent (releaseLine s) := h.of_frame (by simp) (by simp)
  unfold Machine.cmdLinkRestart
  split
  · exact h
  · split
    · exact h
    · exact released.abandon.of_frame (by simp [okWith]) (by simp [okWith])

/-- SESSION_DROP pops an entry only with the gate open (R75). -/
theorem SessionsCoherent.cmdSessionDrop (h : SessionsCoherent s) : SessionsCoherent (cmdSessionDrop s).2.2 := by
  unfold Machine.cmdSessionDrop
  split
  · exact h
  · rename_i notTaken
    have gate : s.sess.gate = none := by simpa using notTaken
    split
    · exact h
    · have free {m : SlotId} {p : Prop} (holds : s.sess.gate = some m) : p := by
        rw [gate] at holds
        cases holds
      refine ⟨?_, ?_, h.gate, fun m => free, fun m => free⟩
      · exact (List.length_tail ..).trans_le ((Nat.sub_le ..).trans h.depth)
      · have tail := h.nodes.sublist (List.tail_sublist _)
        rwa [← List.map_tail] at tail

theorem writeEntry_sess {table : BitVec 2} {i : Nat} (written : s.writeEntry table i = some t) : t.sess = s.sess := by
  unfold State.writeEntry at written
  repeat' split at written
  all_goals simp at written
  all_goals obtain ⟨_, -, rfl⟩ := written; rfl

theorem SessionsCoherent.cmdTagReset (h : SessionsCoherent s) (a : BitVec 24) :
    SessionsCoherent (cmdTagReset a s).2.2 := by
  unfold Machine.cmdTagReset
  dsimp only
  repeat' split
  · exact h
  · exact h
  · exact h.of_parts (by simp [okWith]) (by simp [okWith]) (by simp [okWith])

theorem SessionsCoherent.callCommand {c : Instr} {code : BitVec 8} {f : State → CmdOut}
    (is : commandOf c = some (code, f)) (changes : leavesCalls c = false) (h : SessionsCoherent s)
    (q : QueuesCoherent s) : SessionsCoherent (f s).2.2 := by
  cases c <;> cases is <;> try cases changes
  case submit e => exact h.cmdSubmit e
  case cancel a => exact h.cmdCancel a
  case retire a => exact h.cmdRetire a
  case cqPop => exact h.cmdCqPop q
  case flushClass a => exact h.cmdFlushClass a
  case tagReset a => exact h.cmdTagReset a
  case linkRestart => exact h.cmdLinkRestart

/-- The gate belongs to the calls: no other command touches it (R71). -/
theorem command_gate {c : Instr} {code : BitVec 8} {f : State → CmdOut} (is : commandOf c = some (code, f))
    (leaves : leavesCalls c = true) (s : State) : (f s).2.2.sess.gate = s.sess.gate := by
  cases c <;> cases is
  case submit | cancel | retire | cqPop | flushClass | tagReset | linkRestart => cases leaves
  case inboxPop a => unfold cmdInboxPop; repeat' split
                     all_goals simp [refuse, setInbox]
  case inboxFlush a => unfold cmdInboxFlush; split <;> simp [refuse, okWith, setInbox]
  case tableRead a => unfold cmdTableRead; split <;> simp [refuse, okWith]
  case tableWrite a =>
    unfold cmdTableWrite
    split
    · rfl
    · rename_i u written
      simp [okWith, writeEntry_sess written]
  case publish a => unfold cmdPublish; split <;> simp [refuse]
  case publishForce a => unfold cmdPublishForce; split <;> simp [refuse, okWith]
  case withdraw a => unfold cmdWithdraw; split <;> simp [refuse, okWith]
  case absorb a => unfold cmdAbsorb; split <;> simp [refuse, okWith]
  case holdSend a => unfold cmdHoldSend; repeat' split
                     all_goals simp [refuse, okWith]
  case sessionDrop => unfold cmdSessionDrop; repeat' split
                      all_goals simp [refuse, okWith]
  case breakClaim => unfold cmdBreakClaim; split <;> simp [refuse, okWith]
  case doze => unfold cmdDoze; dsimp only; repeat' split
               all_goals simp [refuse, okWith]
  case wake e => unfold cmdWake; repeat' split
                 all_goals simp [refuse, okWith]
  case quarantineClear => unfold cmdQuarantineClear; split <;> simp [refuse, okWith]
  case countersClear => rfl

theorem SessionsCoherent.command {c : Instr} {code : BitVec 8} {f : State → CmdOut}
    (is : commandOf c = some (code, f)) (h : SessionsCoherent s) (q : QueuesCoherent s) :
    SessionsCoherent (f s).2.2 := by
  cases leaves : leavesCalls c with
  | false => exact h.callCommand is leaves q
  | true =>
    by_cases drop : c = .sessionDrop
    · subst drop
      cases is
      exact h.cmdSessionDrop
    · refine h.of_parts (fun m => ?_) (command_gate is leaves s) (by rw [(command_frame is s).stack drop])
      rw [command_calls is leaves]
      exact ⟨rfl, rfl, rfl⟩

/-! ## Host accesses, and every step -/

theorem hostKept_sessions : HostKept (fun s => QueuesCoherent s ∧ SessionsCoherent s) SessionsCoherent where
  nothing := And.right
  command is h code := by
    obtain ⟨-, -, sess, -, -, -, calls, -⟩ := finishCommand_frame code (_ : CmdOut)
    exact (h.2.command is h.1).of_frame calls sess
  undefined h code := h.2.of_frame (by simp [finishCommand, refuse]) (by simp [finishCommand, refuse])
  softReset _ := sessionsCoherent_clear rfl rfl
  enable h f := h.2.of_frame (by simp) (by simp)
  disable {s} h f := by
    have released : SessionsCoherent (releaseLine (writeFields f s)) := h.2.of_frame (by simp) (by simp)
    unfold disableLink
    split
    · exact released.abandon.of_frame rfl rfl
    · exact h.2.of_frame (by simp) (by simp)
  clear h w keep := h.2.of_frame (by simp) (by simp)
  read h := h.2.of_frame rfl rfl
  register other h w := h.2.of_frame (writeReg_frame _ w _ other).calls (writeReg_frame _ w _ other).sess

theorem kept_queues : Kept QueuesCoherent QueuesCoherent :=
  CallInvariant.kept ⟨id, fun m q => q.move m, queuesCoherent_clear⟩

theorem kept_sessions : Kept (fun s => QueuesCoherent s ∧ SessionsCoherent s)
    fun s => QueuesCoherent s ∧ SessionsCoherent s where
  line is h := ⟨kept_queues.line is h.1, h.2.line is h.1⟩
  expiry h := ⟨kept_queues.expiry h.1, h.2.effect _⟩
  dozes h := ⟨kept_queues.dozes h.1, h.2.of_frame (by simp) (by simp)⟩
  host act h := ⟨kept_queues.host act h.1, hostKept_sessions.host act h⟩
  ends h := ⟨kept_queues.ends h.1, h.2.endEvent h.1⟩
  drops h := ⟨kept_queues.drops h.1, h.2.of_frame (by simp) (by simp)⟩
  marks h := ⟨kept_queues.marks h.1, h.2.of_frame rfl rfl⟩
  clears h := ⟨kept_queues.clears h.1, h.2.of_frame rfl rfl⟩
  cycles h := ⟨kept_queues.cycles h.1, h.2.nextEdge⟩
  pin h := ⟨kept_queues.pin h.1, h.2.of_frame (by simp) (by simp)⟩
  resets := ⟨kept_queues.resets, sessionsCoherent_clear rfl rfl⟩
  waits h := ⟨kept_queues.waits h.1, h.2.of_frame rfl rfl⟩
  reads h := ⟨kept_queues.reads h.1, h.2.of_frame rfl rfl⟩

/-- Settles O57: every row keeps the sessions, where slots and queues agree before it. -/
theorem stepKeepsSessions : Obligations.StepKeepsSessions :=
  fun _ _ run q h => (kept_sessions.step run ⟨q, h⟩).2

end Sys2Proof.Safety
end

section
/-! The mirrors that an accepted ACK renews (R73). -/

namespace Sys2Proof.Calling

open Sys2Proof.Machine Sys2Proof.Safety Sys2Proof.Linkage

variable {s : State} {own : Parcel} {e : SessEntry}

theorem renewedBy_iff : e.renewedBy own = true ↔
    e.node = own.dest ∧ e.identity = own.source ∧ e.lapsed = false ∧ e.lease ≠ 0 := by
  simp [SessEntry.renewedBy, and_assoc]

/-- The HCLK cycles from the end of the own call to the end of the mirror of a lease (R73). -/
def mirrorCycles (s : State) (lease : BitVec 8) : Nat := (lease.toNat - 1) * 1000 * (s.div + 1)

theorem mirrorFor_isNone {lease : BitVec 8} :
    (s.mirrorFor lease).isNone = true ↔ mirrorCycles s lease ≤ s.link.callAge.getD 0 := by
  constructor
  · intro ended
    by_contra left
    obtain ⟨m, is, -⟩ := startAged_eq_some (Nat.not_le.mp left)
    rw [State.mirrorFor, is] at ended
    cases ended
  · intro ended
    rw [State.mirrorFor, startAged_eq_none ended]
    rfl

/-- What an accepted ACK to the own call makes of an entry (R73). -/
def restartedEntry (s : State) (own : Parcel) (e : SessEntry) : SessEntry :=
  if e.renewedBy own then { e with mirror := s.mirrorFor e.lease, lapsed := (s.mirrorFor e.lease).isNone } else e

theorem restartMirrors_eq (own : Parcel) (s : State) : restartMirrors own s =
    raiseIf (s.sess.stack.any fun e => e.renewedBy own && (s.mirrorFor e.lease).isNone) .leaseLapsed
      (setStack (s.sess.stack.map (restartedEntry s own)) s) := rfl

theorem restartedEntry_other (untouched : ¬ e.renewedBy own = true) : restartedEntry s own e = e := if_neg untouched

theorem restartedEntry_ended (renews : e.renewedBy own = true)
    (ended : mirrorCycles s e.lease ≤ s.link.callAge.getD 0) :
    restartedEntry s own e = { e with mirror := none, lapsed := true } := by
  have mirror : s.mirrorFor e.lease = none := startAged_eq_none ended
  simp only [restartedEntry, renews, mirror, if_true, Option.isNone_none]

theorem restartedEntry_left (renews : e.renewedBy own = true)
    (left : s.link.callAge.getD 0 < mirrorCycles s e.lease) :
    ∃ m : Timer, restartedEntry s own e = { e with mirror := some m } ∧ 1 ≤ m.us ∧ 1 ≤ m.cyc ∧ m.cyc ≤ s.div + 1 ∧
      (m.us - 1) * (s.div + 1) + m.cyc = mirrorCycles s e.lease - s.link.callAge.getD 0 := by
  obtain ⟨m, is, runs⟩ := startAged_eq_some left
  have mirror : s.mirrorFor e.lease = some m := is
  have current : e.lapsed = false := (renewedBy_iff.mp renews).2.2.1
  refine ⟨m, ?_, runs⟩
  simp only [restartedEntry, renews, mirror, if_true, Option.isNone_some]
  rw [← current]

/-- LEASE_LAPSED is raised exactly where some renewed mirror has come to its end. -/
theorem any_ended_iff : (s.sess.stack.any fun e => e.renewedBy own && (s.mirrorFor e.lease).isNone) = true ↔
    ∃ e ∈ s.sess.stack, e.renewedBy own = true ∧ mirrorCycles s e.lease ≤ s.link.callAge.getD 0 := by
  simp only [List.any_eq_true, Bool.and_eq_true, mirrorFor_isNone]

/-- Settles O42: the stack is mapped entry by entry, and each entry falls under one of the three laws above. -/
theorem ackRestartsMirrors : Obligations.AckRestartsMirrors := by
  intro own s
  simp only [← renewedBy_iff]
  have stack : (restartMirrors own s).sess.stack = s.sess.stack.map (restartedEntry s own) := by
    simp only [restartMirrors_eq, raiseIf_frame, setStack_sess]
  refine ⟨?_, fun lapses => ?_, fun none => ?_, by rw [stack, List.length_map], fun i e at_i => ?_⟩
  · rw [restartMirrors_eq, raiseIf]
    split <;> rfl
  · rw [restartMirrors_eq, raiseIf, if_pos (any_ended_iff.mpr lapses)]
    rfl
  · rw [restartMirrors_eq, raiseIf, if_neg (mt any_ended_iff.mp none)]
    rfl
  · have entry : (restartMirrors own s).sess.stack[i]? = some (restartedEntry s own e) := by
      rw [stack, List.getElem?_map, at_i]
      rfl
    rw [entry]
    refine ⟨fun untouched => congrArg some (restartedEntry_other untouched),
      fun renews ended => congrArg some (restartedEntry_ended renews ended), fun renews left => ?_⟩
    obtain ⟨m, is, runs⟩ := restartedEntry_left renews left
    exact ⟨m, congrArg some is, runs⟩

end Sys2Proof.Calling
end

section
/-! HOLD_SEND, SESSION_DROP and BREAK_CLAIM (R75, R83, R127). -/

namespace Sys2Proof.Calling

open Sys2Proof.Machine Sys2Proof.Safety Sys2Proof.Linkage

variable {s : State}

/-- HOLD_SEND with its checks in order (R127). -/
theorem finish_holdSend (arg : BitVec 24) : finishCommand 0x18 (cmdHoldSend arg s) =
    if s.link.act = .off then commandRefused 0x18 .disabled 0 s
    else if s.hold.manual ≠ none then commandRefused 0x18 .wrongState 0 s
    else if arg.extractLsb' 16 4 = 0#4 then commandRefused 0x18 .badArgument 0 s
    else commandOk 0x18 0 { s with hold := { s.hold with
      manual := some (arg.extractLsb' 16 4, arg.extractLsb' 0 16) } } := by
  have linkOff : (!s.linkEn) = true ↔ s.link.act = .off := by simp [State.linkEn]
  have requested : s.hold.manual.isSome = true ↔ s.hold.manual ≠ none := Option.isSome_iff_ne_none
  simp only [cmdHoldSend, linkOff, requested]
  rw [apply_ite (finishCommand 0x18), apply_ite (finishCommand 0x18), apply_ite (finishCommand 0x18)]
  rfl

theorem finish_sessionDrop_taken (taken : s.sess.gate ≠ none) :
    finishCommand 0x1C (cmdSessionDrop s) = commandRefused 0x1C .wrongState 0 s := by
  rw [cmdSessionDrop, if_pos (Option.isSome_iff_ne_none.mpr taken)]
  rfl

theorem finish_sessionDrop_empty (gate : s.sess.gate = none) (empty : s.sess.stack = []) :
    finishCommand 0x1C (cmdSessionDrop s) = commandRefused 0x1C .empty 0 s := by
  have refused : cmdSessionDrop s = refuse .empty s := by
    simp only [cmdSessionDrop, gate, empty, Option.isSome_none, Bool.false_eq_true, if_false]
  rw [refused, finishCommand_refuse _ .empty _ nofun]

theorem finish_sessionDrop_top (gate : s.sess.gate = none) {e : SessEntry} {rest : List SessEntry}
    (stack : s.sess.stack = e :: rest) : finishCommand 0x1C (cmdSessionDrop s) =
      commandOk 0x1C (e.node.setWidth 16) { s with sess := { s.sess with stack := rest } } := by
  have dropped : cmdSessionDrop s = okWith e.node.toNat (popSession s) := by
    simp only [cmdSessionDrop, gate, stack, Option.isSome_none, Bool.false_eq_true, if_false]
  rw [dropped, finishCommand_okWith, BitVec.ofNat_toNat, popSession, setStack, stack, List.tail_cons]

theorem finish_breakClaim_empty (unclaimed : s.sess.holder = none) :
    finishCommand 0x1D (cmdBreakClaim s) = commandRefused 0x1D .empty 0 s := by
  rw [cmdBreakClaim, unclaimed]
  rfl

theorem finish_breakClaim_held {h : BitVec 5} (held : s.sess.holder = some h) :
    finishCommand 0x1D (cmdBreakClaim s) = commandOk 0x1D (h.setWidth 16) (endClaim .broken s) := by
  rw [cmdBreakClaim, held]
  dsimp only
  rw [finishCommand_okWith, BitVec.ofNat_toNat]

/-- Settles O29: the branches of the three commands, each followed by the steps of every command. -/
theorem holdDropAndBreakCommands : Obligations.HoldDropAndBreakCommands := by
  intro arg now s running is
  rw [exec_holdSend now running, exec_sessionDrop now running, exec_breakClaim now running, ← is]
  exact ⟨by rw [finish_holdSend], fun taken => by rw [finish_sessionDrop_taken taken],
    fun gate empty => by rw [finish_sessionDrop_empty gate empty],
    fun e rest gate stack => by rw [finish_sessionDrop_top gate stack],
    fun unclaimed => by rw [finish_breakClaim_empty unclaimed],
    fun h held => by rw [finish_breakClaim_held held, endClaim]⟩

end Sys2Proof.Calling
end

section
/-! Steps 6 to 10 of Intake on a unicast call (R88): where a call enters them, and what the last two leave
(R81, R94). -/

namespace Sys2Proof.Calling

open Sys2Proof.Machine Sys2Proof.Safety Sys2Proof.Linkage

variable {s t : State} {p : Parcel} {hit : IdHit}

/-! ## Where a call enters -/

theorem hit_ne_broadcast (unicast : p.dest ≠ 0) : s.cfg.ident.hit p.dest ≠ .broadcast := by
  rw [Ident.hit, if_neg unicast]
  split <;> nofun

/-- A call of a kind up to RELEASE passes the steps before the claim step where Intake is open (R88). -/
theorem intake_of_open (isOpen : intakeOpen s) (kind : p.kind.toNat ≤ 4) :
    intake p s = intakeFromClaim (s.cfg.ident.hit p.dest) p s := by
  obtain ⟨enabled, notDozing⟩ := isOpen
  have other {k : BitVec 4} (large : 4 < k.toNat) : p.kind ≠ k := fun is => by
    rw [is] at kind
    exact Nat.not_le.mpr large kind
  have notHold : p.kind ≠ Config.kindHold := other (by decide)
  have notRouse : p.kind ≠ Config.kindRouse := other (by decide)
  simp only [intake, if_neg notHold, if_neg notRouse, enabled, Bool.not_true, Bool.false_eq_true, if_false,
    if_neg notDozing]

theorem intakeFromClaim_claim (unicast : hit ≠ .broadcast) (kind : p.kind = Config.kindClaim) :
    intakeFromClaim hit p s = finishCall p
      { reply := some (serveClaim p s).1, reached7 := false, isRepeat := false, old := 0 } (serveClaim p s).2 := by
  rw [intakeFromClaim, if_neg unicast, if_pos kind]

theorem intakeFromClaim_release (unicast : hit ≠ .broadcast) (kind : p.kind = Config.kindRelease) :
    intakeFromClaim hit p s = finishCall p
      { reply := some (serveRelease p s).1, reached7 := false, isRepeat := false, old := 0 } (serveRelease p s).2 := by
  have notClaim : p.kind ≠ Config.kindClaim := by
    rw [kind]
    decide
  rw [intakeFromClaim, if_neg unicast, if_neg notClaim, if_pos kind]

/-- A PUT, FETCH or SWAP at the claim step (R80). -/
theorem intakeFromClaim_call (unicast : hit ≠ .broadcast) (kind : p.kind.toNat ≤ 2) :
    intakeFromClaim hit p s =
      if s.heldByOther p then (some (.defer Config.reasonHeld), s) else serveUnicast hit p s := by
  have other {k : BitVec 4} (large : 2 < k.toNat) : p.kind ≠ k := fun is => by
    rw [is] at kind
    exact Nat.not_le.mpr large kind
  have notClaim : p.kind ≠ Config.kindClaim := other (by decide)
  have notRelease : p.kind ≠ Config.kindRelease := other (by decide)
  rw [intakeFromClaim, if_neg unicast, if_neg notClaim, if_neg notRelease]

theorem heldByOther_iff : s.heldByOther p = true ↔ ∃ h, s.sess.holder = some h ∧ h ≠ p.source := by
  cases holder : s.sess.holder <;> simp [State.heldByOther, holder]

/-! ## Steps 9 and 10 -/

section
variable {v : Served} {r : Reply}

/-- Any answer but ACK renews no lease, and leaves the record of a call that did not reach step 7. -/
theorem finishCall_turned (turned : v.acked = false) (before : v.reached7 = false) :
    finishCall p v t = (v.reply, t) := by
  have lease : renewLease p v t = t := if_neg fun acked => by simp [turned] at acked
  rw [finishCall, lease]
  simp [updateRecord, turned, before]

/-- Any answer but ACK to a call with tag 0 that reached step 7 empties the record of its source. -/
theorem finishCall_turned_late (turned : v.acked = false) (reached : v.reached7 = true) (once : v.isRepeat = false) :
    finishCall p v t = (v.reply, forgotten p t) := by
  have lease : renewLease p v t = t := if_neg fun acked => by simp [turned] at acked
  rw [finishCall, lease]
  cases enabled : t.cfg.ident.repeatEn <;> simp [updateRecord, forgotten, enabled, turned, reached, once]

theorem renewLease_acked (acked : v.acked = true) : renewLease p v t = renewed p t := by
  simp only [renewLease, renewed, acked, true_and]

/-- An ACK to a call of another kind than PUT and SWAP sets no record. -/
theorem finishCall_acked (acked : v.acked = true) (once : v.isRepeat = false) (notPut : p.kind ≠ Config.kindPut)
    (notSwap : p.kind ≠ Config.kindSwap) : finishCall p v t = (v.reply, forgotten p (renewed p t)) := by
  rw [finishCall, renewLease_acked acked]
  have put : ¬ (v.acked = true ∧ p.kind = Config.kindPut) := fun both => notPut both.2
  have swap : ¬ (v.acked = true ∧ p.kind = Config.kindSwap) := fun both => notSwap both.2
  cases enabled : (renewed p t).cfg.ident.repeatEn
  · simp [updateRecord, forgotten, enabled]
  · simp only [updateRecord, forgotten, enabled, once, if_neg put, if_neg swap]
    simp [acked]

/-- An ACK to a SWAP sets the record with the value that it replaced. -/
theorem finishCall_acked_swap (acked : v.acked = true) (once : v.isRepeat = false) (swap : p.kind = Config.kindSwap) :
    finishCall p v t = (v.reply, remembered p .swap v.old (renewed p t)) := by
  rw [finishCall, renewLease_acked acked]
  have put : ¬ (v.acked = true ∧ p.kind = Config.kindPut) := fun both => by
    rw [swap] at both
    exact absurd both.2 (by decide)
  cases enabled : (renewed p t).cfg.ident.repeatEn
  · simp [updateRecord, remembered, enabled]
  · simp only [updateRecord, remembered, enabled, once, if_neg put, if_pos (And.intro acked swap)]
    simp only [acked, Bool.or_true, if_true, Bool.not_true, Bool.or_self, Bool.false_eq_true, if_false]
    split <;> rfl

end

/-! ## The claim step (R78, R79, R80) -/

/-- A claim just granted or renewed has its lease from now: step 9 sets it to the same end again. -/
theorem renewed_takeClaim (s : State) : renewed p (takeClaim p.source s) = takeClaim p.source s := if_pos rfl

theorem renewed_restartLease (holds : s.sess.holder = some p.source) :
    renewed p (restartLease s) = restartLease s := if_pos holds

theorem renewed_endClaim (cause : EndCause) (s : State) : renewed p (endClaim cause s) = endClaim cause s :=
  if_neg nofun

theorem serveClaim_disabled (disabled : s.cfg.ident.claimEn = false) :
    serveClaim p s = (.nak Config.reasonUnsupported, s) := by
  simp only [serveClaim, disabled, Bool.not_false, if_true]

section
variable (enabled : s.cfg.ident.claimEn = true)
include enabled

theorem serveClaim_granted (unclaimed : s.sess.holder = none) :
    serveClaim p s = (.ack [s.cfg.ident.lease], takeClaim p.source s) := by
  simp only [serveClaim, enabled, unclaimed, Bool.not_true, Bool.false_eq_true, if_false]

theorem serveClaim_renewed (holds : s.sess.holder = some p.source) :
    serveClaim p s = (.ack [s.cfg.ident.lease], restartLease s) := by
  simp only [serveClaim, enabled, holds, Bool.not_true, Bool.false_eq_true, if_false, if_true]

theorem serveClaim_deferred {h : BitVec 5} (held : s.sess.holder = some h) (other : h ≠ p.source) :
    serveClaim p s = (.defer Config.reasonHeld, s) := by
  simp only [serveClaim, enabled, held, if_neg other, Bool.not_true, Bool.false_eq_true, if_false]

end

/-- A unicast CLAIM or RELEASE served ACK in state `t`, where step 9 finds nothing to renew. -/
theorem finishCall_session (bytes : List Byte) (kind : 3 ≤ p.kind.toNat) (renews : renewed p t = t) :
    finishCall p { reply := some (.ack bytes), reached7 := false, isRepeat := false, old := 0 } t =
      (some (.ack bytes), forgotten p t) := by
  have other {k : BitVec 4} (small : k.toNat < 3) : p.kind ≠ k := fun is => by
    rw [is] at kind
    exact Nat.not_le.mpr small kind
  rw [finishCall_acked rfl rfl (other (by decide)) (other (by decide)), renews]

section
variable (isOpen : intakeOpen s) (unicast : p.dest ≠ 0)
include isOpen unicast

theorem intake_claim (kind : p.kind = Config.kindClaim) : intake p s = finishCall p
    { reply := some (serveClaim p s).1, reached7 := false, isRepeat := false, old := 0 } (serveClaim p s).2 := by
  rw [intake_of_open isOpen (by rw [kind]; decide), intakeFromClaim_claim (hit_ne_broadcast unicast) kind]

theorem intake_claim_disabled (kind : p.kind = Config.kindClaim) (disabled : s.cfg.ident.claimEn = false) :
    intake p s = (some (.nak Config.reasonUnsupported), s) := by
  rw [intake_claim isOpen unicast kind, serveClaim_disabled disabled, finishCall_turned rfl rfl]

theorem intake_claim_granted (kind : p.kind = Config.kindClaim) (enabled : s.cfg.ident.claimEn = true)
    (unclaimed : s.sess.holder = none) :
    intake p s = (some (.ack [s.cfg.ident.lease]), forgotten p (takeClaim p.source s)) := by
  rw [intake_claim isOpen unicast kind, serveClaim_granted enabled unclaimed]
  exact finishCall_session _ (by rw [kind]; decide) (renewed_takeClaim s)

theorem intake_claim_renewed (kind : p.kind = Config.kindClaim) (enabled : s.cfg.ident.claimEn = true)
    (holds : s.sess.holder = some p.source) :
    intake p s = (some (.ack [s.cfg.ident.lease]), forgotten p (restartLease s)) := by
  rw [intake_claim isOpen unicast kind, serveClaim_renewed enabled holds]
  exact finishCall_session _ (by rw [kind]; decide) (renewed_restartLease holds)

theorem intake_claim_deferred (kind : p.kind = Config.kindClaim) (enabled : s.cfg.ident.claimEn = true) {h : BitVec 5}
    (held : s.sess.holder = some h) (other : h ≠ p.source) : intake p s = (some (.defer Config.reasonHeld), s) := by
  rw [intake_claim isOpen unicast kind, serveClaim_deferred enabled held other,
    finishCall_turned rfl rfl]

theorem intake_release (kind : p.kind = Config.kindRelease) : intake p s = finishCall p
    { reply := some (serveRelease p s).1, reached7 := false, isRepeat := false, old := 0 } (serveRelease p s).2 := by
  rw [intake_of_open isOpen (by rw [kind]; decide), intakeFromClaim_release (hit_ne_broadcast unicast) kind]

theorem intake_release_holder (kind : p.kind = Config.kindRelease) (holds : s.sess.holder = some p.source) :
    intake p s = (some (.ack []), forgotten p (endClaim .released s)) := by
  rw [intake_release isOpen unicast kind, serveRelease, if_pos holds]
  exact finishCall_session _ (by rw [kind]; decide) (renewed_endClaim .released s)

theorem intake_release_other (kind : p.kind = Config.kindRelease) (other : s.sess.holder ≠ some p.source) :
    intake p s = (some (.nak Config.reasonNotHolder), s) := by
  rw [intake_release isOpen unicast kind, serveRelease, if_neg other, finishCall_turned rfl rfl]

theorem intake_call (kind : p.kind.toNat ≤ 2) : intake p s =
    if s.heldByOther p then (some (.defer Config.reasonHeld), s)
    else serveUnicast (s.cfg.ident.hit p.dest) p s := by
  rw [intake_of_open isOpen (kind.trans (by decide)), intakeFromClaim_call (hit_ne_broadcast unicast) kind]

end

/-- Settles O47: the rows of R78 and R79 and the deferral of R80, each with its state. -/
theorem claimStep : Obligations.ClaimStep := by
  intro p s isOpen unicast
  refine ⟨fun claim => ⟨?_, ?_, ?_, ?_⟩, fun release => ⟨?_, ?_⟩, fun kind h held other => ?_⟩
  · exact intake_claim_disabled isOpen unicast claim
  · exact intake_claim_granted isOpen unicast claim
  · exact intake_claim_renewed isOpen unicast claim
  · exact fun enabled h held other => intake_claim_deferred isOpen unicast claim enabled held other
  · exact intake_release_holder isOpen unicast release
  · exact intake_release_other isOpen unicast release
  · rw [intake_call isOpen unicast kind, if_pos (heldByOther_iff.mpr ⟨h, held, other⟩)]
    rfl

end Sys2Proof.Calling
end

section
/-! FETCH and SWAP at step 8 of Intake (R110, R111). -/

namespace Sys2Proof.Calling

open Sys2Proof.Machine Sys2Proof.Safety Sys2Proof.Linkage

variable {s : State} {p : Parcel}

/-! ## FETCH -/

/-- The list over a window of numbers, the rest of them giving nothing. -/
theorem flatMap_range_window {α : Type} (g : Nat → List α) {start n N : Nat} (fits : start + n ≤ N) :
    ((List.range N).flatMap fun k => if start ≤ k ∧ k < start + n then g k else []) =
      (List.range n).flatMap fun k => g (start + k) := by
  obtain ⟨rest, rfl⟩ := Nat.exists_eq_add_of_le fits
  have before : ((List.range start).flatMap fun k => if start ≤ k ∧ k < start + n then g k else []) = [] :=
    List.flatMap_eq_nil_iff.mpr fun k below => if_neg fun within =>
      Nat.not_le.mpr (List.mem_range.mp below) within.1
  have after : (((List.range rest).map (start + n + ·)).flatMap fun k =>
      if start ≤ k ∧ k < start + n then g k else []) = [] := by
    rw [List.flatMap_map]
    exact List.flatMap_eq_nil_iff.mpr fun k _ => if_neg fun within => by omega
  have window : (((List.range n).map (start + ·)).flatMap fun k =>
      if start ≤ k ∧ k < start + n then g k else []) = (List.range n).flatMap fun k => g (start + k) := by
    rw [List.flatMap_map]
    refine List.flatMap_congr fun k below => if_pos ?_
    have := List.mem_range.mp below
    omega
  rw [List.range_add, List.range_add, List.flatMap_append, List.flatMap_append, before, after, window,
    List.nil_append, List.append_nil]

/-- The bytes of a FETCH are those of the committed values of its entries, in order. -/
theorem fetchBytes_eq {start n : Nat} (b : Board) (fits : start + n ≤ 64) : fetchBytes start n b =
    (List.range n).flatMap fun k => wordBytes ((b[start + k]?.map BoardEntry.committed).getD 0) := by
  have entry (i : Fin Config.boardSize) : (if inRange start n i then wordBytes b[i].committed else []) =
      if start ≤ i.val ∧ i.val < start + n then wordBytes ((b[i.val]?.map BoardEntry.committed).getD 0) else [] := by
    have here : b[i.val]? = some b[i] := Vector.getElem?_eq_getElem i.isLt
    simp only [inRange, Bool.and_eq_true, decide_eq_true_eq, here, Option.map_some, Option.getD_some]
  rw [← flatMap_range_window (fun k => wordBytes ((b[k]?.map BoardEntry.committed).getD 0)) fits,
    ← List.map_coe_finRange_eq_range, List.flatMap_map]
  exact List.flatMap_congr fun i _ => entry i

theorem countRange_pos {start n : Nat} {b : Board} {q : BoardEntry → Bool} : 0 < countRange start n q b ↔
    ∃ i : Fin 64, start ≤ i.val ∧ i.val < start + n ∧ q b[i] = true := by
  simp [countRange, inRange, and_assoc]

theorem serveFetch_range (beyond : (p.byte 1).toNat = 0 ∨ 8 < (p.byte 1).toNat ∨
    64 < (p.byte 0).toNat + (p.byte 1).toNat) : serveFetch p s = .nak Config.reasonRange := if_pos beyond

section
variable (nonempty : (p.byte 1).toNat ≠ 0) (atMost : (p.byte 1).toNat ≤ 8)
  (fits : (p.byte 0).toNat + (p.byte 1).toNat ≤ 64)
include nonempty atMost fits

/-- A range of the board is served where no entry of it is closed to remote reads. -/
theorem serveFetch_within : serveFetch p s =
    if ∃ i : Fin 64, (p.byte 0).toNat ≤ i.val ∧ i.val < (p.byte 0).toNat + (p.byte 1).toNat ∧
      (!s.board[i].remoteRead) = true then .nak Config.reasonDenied
    else .ack (fetchBytes (p.byte 0).toNat (p.byte 1).toNat s.board) := by
  have within : ¬ ((p.byte 1).toNat = 0 ∨ Config.maxFetch < (p.byte 1).toNat ∨
      Config.boardSize < (p.byte 0).toNat + (p.byte 1).toNat) := by
    rintro (none | many | beyond)
    · exact nonempty none
    · exact Nat.not_lt.mpr atMost many
    · exact Nat.not_lt.mpr fits beyond
  simp only [serveFetch, if_neg within, countRange_pos]

theorem serveFetch_denied (closed : ¬ ∀ i : Fin 64, (p.byte 0).toNat ≤ i.val →
    i.val < (p.byte 0).toNat + (p.byte 1).toNat → s.board[i].remoteRead = true) :
    serveFetch p s = .nak Config.reasonDenied := by
  rw [serveFetch_within nonempty atMost fits, if_pos]
  simpa using closed

theorem serveFetch_carried (readable : ∀ i : Fin 64, (p.byte 0).toNat ≤ i.val →
    i.val < (p.byte 0).toNat + (p.byte 1).toNat → s.board[i].remoteRead = true) :
    serveFetch p s = .ack ((List.range (p.byte 1).toNat).flatMap fun k =>
      wordBytes ((s.board[(p.byte 0).toNat + k]?.map BoardEntry.committed).getD 0)) := by
  rw [serveFetch_within nonempty atMost fits, if_neg, fetchBytes_eq _ fits]
  rintro ⟨i, low, high, closed⟩
  rw [readable i low high] at closed
  cases closed

end

/-! ## SWAP -/

theorem swapValue_eq (p : Parcel) : p.swapValue =
    p.payload.getD 1 0 ++ p.payload.getD 2 0 ++ p.payload.getD 3 0 ++ p.payload.getD 4 0 := by
  simp [Parcel.swapValue, bytesWord, List.getD_eq_getElem?_getD]

theorem serveSwap_range (beyond : 64 ≤ (p.byte 0).toNat) : serveSwap p s = (.nak Config.reasonRange, none, s) :=
  dif_neg (Nat.not_lt.mpr beyond)

section
variable {i : Fin 64} (entry : i.val = (p.byte 0).toNat)
include entry

theorem serveSwap_entry : serveSwap p s =
    if s.board[i].remoteWrite then (.ack (wordBytes s.board[i].committed), some s.board[i].committed,
      raise .boardSwapped { s with board := s.board.set i (s.board[i].swap p.swapValue) })
    else (.nak Config.reasonDenied, none, s) := by
  have onBoard : (p.byte 0).toNat < Config.boardSize := entry ▸ i.isLt
  simp only [serveSwap, dif_pos onBoard, Fin.getElem_fin, entry]

theorem serveSwap_denied (closed : s.board[i].remoteWrite = false) :
    serveSwap p s = (.nak Config.reasonDenied, none, s) := by
  rw [serveSwap_entry entry, closed]
  rfl

theorem serveSwap_carried (writable : s.board[i].remoteWrite = true) : serveSwap p s =
    (.ack (wordBytes s.board[i].committed), some s.board[i].committed,
      raise .boardSwapped { s with board := s.board.set i (s.board[i].swap p.swapValue) }) := by
  rw [serveSwap_entry entry, if_pos writable]

end

/-! ## The two calls through Intake -/

section
variable (isOpen : intakeOpen s) (unicast : p.dest ≠ 0)
  (free : s.sess.holder = none ∨ s.sess.holder = some p.source)
include isOpen unicast free

/-- A call passes the claim step where no other source holds the claim. -/
theorem intake_served (kind : p.kind.toNat ≤ 2) : intake p s = serveUnicast (s.cfg.ident.hit p.dest) p s := by
  have notHeld : ¬ s.heldByOther p = true := fun held => by
    obtain ⟨h, holder, other⟩ := heldByOther_iff.mp held
    rw [holder] at free
    exact free.elim nofun fun same => other (Option.some.inj same)
  rw [intake_call isOpen unicast kind, if_neg notHeld]

variable (fresh : s.repeatRecord p = none)
include fresh

theorem intake_fetch (fetch : p.kind = Config.kindFetch) : intake p s =
    finishCall p { reply := some (serveFetch p s), reached7 := true, isRepeat := false, old := 0 } s := by
  have notPut : p.kind ≠ Config.kindPut := by
    rw [fetch]
    decide
  rw [intake_served isOpen unicast free (by rw [fetch]; decide), serveUnicast, fresh]
  simp only [if_neg notPut, if_pos fetch]

theorem intake_fetch_refused (fetch : p.kind = Config.kindFetch) {reason : Byte}
    (refused : serveFetch p s = .nak reason) : intake p s = (some (.nak reason), forgotten p s) := by
  rw [intake_fetch isOpen unicast free fresh fetch, refused, finishCall_turned_late rfl rfl rfl]

theorem intake_fetch_carried (fetch : p.kind = Config.kindFetch) {bytes : List Byte}
    (carried : serveFetch p s = .ack bytes) : intake p s = (some (.ack bytes), forgotten p (renewed p s)) := by
  rw [intake_fetch isOpen unicast free fresh fetch, carried,
    finishCall_acked rfl rfl (by rw [fetch]; decide) (by rw [fetch]; decide)]

theorem intake_swap (swap : p.kind = Config.kindSwap) : intake p s = finishCall p
    { reply := some (serveSwap p s).1, reached7 := true, isRepeat := false, old := (serveSwap p s).2.1.getD 0 }
    (serveSwap p s).2.2 := by
  have notPut : p.kind ≠ Config.kindPut := by
    rw [swap]
    decide
  have notFetch : p.kind ≠ Config.kindFetch := by
    rw [swap]
    decide
  rw [intake_served isOpen unicast free (by rw [swap]; decide), serveUnicast, fresh]
  simp only [if_neg notPut, if_neg notFetch]

theorem intake_swap_refused (swap : p.kind = Config.kindSwap) {reason : Byte}
    (refused : serveSwap p s = (.nak reason, none, s)) : intake p s = (some (.nak reason), forgotten p s) := by
  rw [intake_swap isOpen unicast free fresh swap, refused, finishCall_turned_late rfl rfl rfl]

theorem intake_swap_carried (swap : p.kind = Config.kindSwap) {bytes : List Byte} {old : Word} {t : State}
    (carried : serveSwap p s = (.ack bytes, some old, t)) :
    intake p s = (some (.ack bytes), remembered p .swap old (renewed p t)) := by
  rw [intake_swap isOpen unicast free fresh swap, carried, finishCall_acked_swap rfl rfl swap, Option.getD_some]

end

/-- Settles O49: what the board serves, and for each answer the state that steps 9 and 10 leave. -/
theorem fetchAndSwapServed : Obligations.FetchAndSwapServed := by
  intro p s isOpen unicast free fresh
  refine ⟨fun fetch => ⟨fun beyond => ?_, fun nonempty atMost fits closed => ?_,
      fun nonempty atMost fits readable => ?_⟩,
    fun swap => ⟨fun beyond => ?_, fun i entry => ⟨fun closed => ?_, fun writable => ?_⟩⟩⟩
  · exact intake_fetch_refused isOpen unicast free fresh fetch (serveFetch_range beyond)
  · exact intake_fetch_refused isOpen unicast free fresh fetch (serveFetch_denied nonempty atMost fits closed)
  · exact intake_fetch_carried isOpen unicast free fresh fetch (serveFetch_carried nonempty atMost fits readable)
  · exact intake_swap_refused isOpen unicast free fresh swap (serveSwap_range beyond)
  · exact intake_swap_refused isOpen unicast free fresh swap (serveSwap_denied entry closed)
  · have carried := intake_swap_carried isOpen unicast free fresh swap (serveSwap_carried entry writable)
    rw [swapValue_eq] at carried
    exact carried

end Sys2Proof.Calling
end

section
/-! What leaves the records of Intake alone: every line event but the end of a reception, every expiry, every command but
INBOX_POP and INBOX_FLUSH, every register write but that of IDENT (R85, R105). -/

namespace Sys2Proof.Linkage

open Sys2Proof.Machine Sys2Proof.Safety

section
variable (s : State)

/-! ## Line events and expiries -/

/-- A line event ends a reception, or leaves Intake's records alone. -/
theorem line_intake {c : Instr} {f : State → State} (is : lineEffect c = some f) :
    (∃ items, f = onParcel items) ∨ (f s).intake = s.intake := by
  cases c <;> cases is
  case parcelReceived items => exact .inl ⟨items, rfl⟩
  all_goals right
  case leadMark =>
    unfold onLeadMark
    repeat' split
    all_goals simp
  case contentionWon =>
    unfold onContentionWon
    repeat' split
    all_goals simp
  case arbitrationLoss =>
    unfold onArbitrationLoss
    split <;> simp
  case bitClash b =>
    unfold onBitClash
    repeat' split
    all_goals simp
  case markFault =>
    unfold onMarkFault
    split <;> simp
  case sentCleanly =>
    unfold onSentCleanly
    dsimp only
    repeat' split
    all_goals simp
  case answerSent =>
    unfold onAnswerSent
    split <;> simp
  case answerStart =>
    unfold onAnswerStart
    repeat' split
    all_goals simp
  case answerWindowExpiry =>
    unfold onWindowExpiry
    repeat' split
    all_goals simp
  case quietGapEnd =>
    unfold onQuietGapEnd
    split <;> simp
  case lineHigh =>
    unfold onLineHigh
    split <;> simp
  case strayPulse b =>
    unfold onStrayPulse
    repeat' split
    all_goals simp

theorem expiry_intake (e : Expiry) : (e.effect s).intake = s.intake := by
  cases e with
  | backoff c => rfl
  | hold c => simp only [Expiry.effect, onHoldExpiry]; split <;> simp
  | refresh => simp only [Expiry.effect, onRefreshExpiry]; split <;> simp
  | lease => simp only [Expiry.effect, onLeaseExpiry]; split <;> simp
  | mirror k => simp only [Expiry.effect, onMirrorExpiry]; split <;> simp
  | stuck => simp only [Expiry.effect, onStuckExpiry]; split <;> simp
  | dozeIdle => simp only [Expiry.effect, onDozeIdleExpiry]; split <;> simp

/-! ## Commands -/

/-- A table entry written is a change of the routing table or of the wake filters alone (R166). -/
theorem writeEntry_eq {table : BitVec 2} {i : Nat} {t : State} (written : s.writeEntry table i = some t) :
    t = { s with cfg := { s.cfg with routes := t.cfg.routes, filters := t.cfg.filters } } := by
  unfold State.writeEntry at written
  repeat' split at written
  all_goals simp only [Option.map_eq_some_iff, reduceCtorEq] at written
  all_goals
    obtain ⟨entry, -, rfl⟩ := written
    rfl

theorem flush_intake (l : List SlotId) :
    (l.foldl (fun t n => decideOutcome n .flushed 0 t) s).intake = s.intake := by
  induction l generalizing s with
  | nil => rfl
  | cons n l ih =>
    rw [List.foldl_cons, ih]
    simp

theorem cmdSubmit_intake (e : Edge) : (cmdSubmit e s).2.2.intake = s.intake := by
  unfold cmdSubmit submitWake
  repeat' split
  all_goals simp [refuse, okWith]
theorem cmdCancel_intake (a : BitVec 24) : (cmdCancel a s).2.2.intake = s.intake := by
  unfold cmdCancel
  repeat' split
  all_goals simp [refuse, okWith]
theorem cmdRetire_intake (a : BitVec 24) : (cmdRetire a s).2.2.intake = s.intake := by
  unfold cmdRetire
  repeat' split
  all_goals simp [refuse, okWith]
theorem cmdCqPop_intake : (cmdCqPop s).2.2.intake = s.intake := by
  unfold cmdCqPop
  split <;> simp [refuse, okWith]
theorem cmdFlushClass_intake (a : BitVec 24) : (cmdFlushClass a s).2.2.intake = s.intake := by
  unfold cmdFlushClass
  split
  · rfl
  · exact flush_intake s _
theorem cmdTagReset_intake (a : BitVec 24) : (cmdTagReset a s).2.2.intake = s.intake := by
  unfold cmdTagReset
  dsimp only
  repeat' split
  all_goals simp [refuse, okWith]
@[simp] theorem advanceSel_intake (a : BitVec 24) : (advanceSel a s).intake = s.intake := by
  unfold advanceSel
  split <;> rfl
theorem cmdTableRead_intake (a : BitVec 24) : (cmdTableRead a s).2.2.intake = s.intake := by
  unfold cmdTableRead
  split <;> simp [refuse, okWith]
theorem cmdTableWrite_intake (a : BitVec 24) : (cmdTableWrite a s).2.2.intake = s.intake := by
  unfold cmdTableWrite
  split
  · rfl
  · rename_i t written
    rw [writeEntry_eq s written]
    simp [okWith]
theorem cmdPublish_intake (a : BitVec 24) : (cmdPublish a s).2.2.intake = s.intake := by
  unfold cmdPublish
  split <;> simp [refuse]
theorem cmdPublishForce_intake (a : BitVec 24) : (cmdPublishForce a s).2.2.intake = s.intake := by
  unfold cmdPublishForce
  split <;> simp [refuse, okWith]
theorem cmdWithdraw_intake (a : BitVec 24) : (cmdWithdraw a s).2.2.intake = s.intake := by
  unfold cmdWithdraw
  split <;> simp [refuse, okWith]
theorem cmdAbsorb_intake (a : BitVec 24) : (cmdAbsorb a s).2.2.intake = s.intake := by
  unfold cmdAbsorb
  split <;> simp [refuse, okWith]
theorem cmdHoldSend_intake (a : BitVec 24) : (cmdHoldSend a s).2.2.intake = s.intake := by
  unfold cmdHoldSend
  repeat' split
  all_goals rfl
theorem cmdSessionDrop_intake : (cmdSessionDrop s).2.2.intake = s.intake := by
  unfold cmdSessionDrop
  repeat' split
  all_goals simp [refuse, okWith]
theorem cmdBreakClaim_intake : (cmdBreakClaim s).2.2.intake = s.intake := by
  unfold cmdBreakClaim
  split <;> simp [refuse, okWith]
theorem cmdDoze_intake : (cmdDoze s).2.2.intake = s.intake := by
  unfold cmdDoze
  dsimp only
  repeat' split
  all_goals simp [refuse, okWith]
theorem cmdWake_intake (e : Edge) : (cmdWake e s).2.2.intake = s.intake := by
  unfold cmdWake
  repeat' split
  all_goals simp [refuse, okWith]
theorem cmdLinkRestart_intake : (cmdLinkRestart s).2.2.intake = s.intake := by
  unfold cmdLinkRestart
  repeat' split
  all_goals simp [refuse, okWith]
theorem cmdQuarantineClear_intake : (cmdQuarantineClear s).2.2.intake = s.intake := by
  unfold cmdQuarantineClear
  split <;> simp [refuse, okWith]

/-- INBOX_POP and INBOX_FLUSH are the commands that change Intake's records (R105). -/
theorem command_intake {c : Instr} {code : BitVec 8} {f : State → CmdOut} (is : commandOf c = some (code, f)) :
    (∃ a, c = .inboxPop a ∨ c = .inboxFlush a) ∨ (f s).2.2.intake = s.intake := by
  cases c <;> cases is
  case inboxPop a => exact .inl ⟨a, .inl rfl⟩
  case inboxFlush a => exact .inl ⟨a, .inr rfl⟩
  case submit e => exact .inr (cmdSubmit_intake s e)
  case cancel a => exact .inr (cmdCancel_intake s a)
  case retire a => exact .inr (cmdRetire_intake s a)
  case cqPop => exact .inr (cmdCqPop_intake s)
  case flushClass a => exact .inr (cmdFlushClass_intake s a)
  case tagReset a => exact .inr (cmdTagReset_intake s a)
  case tableRead a => exact .inr (cmdTableRead_intake s a)
  case tableWrite a => exact .inr (cmdTableWrite_intake s a)
  case publish a => exact .inr (cmdPublish_intake s a)
  case publishForce a => exact .inr (cmdPublishForce_intake s a)
  case withdraw a => exact .inr (cmdWithdraw_intake s a)
  case absorb a => exact .inr (cmdAbsorb_intake s a)
  case holdSend a => exact .inr (cmdHoldSend_intake s a)
  case sessionDrop => exact .inr (cmdSessionDrop_intake s)
  case breakClaim => exact .inr (cmdBreakClaim_intake s)
  case doze => exact .inr (cmdDoze_intake s)
  case wake e => exact .inr (cmdWake_intake s e)
  case linkRestart => exact .inr (cmdLinkRestart_intake s)
  case quarantineClear => exact .inr (cmdQuarantineClear_intake s)
  case countersClear => exact .inr rfl

/-- Steps 3 and 4 of R165 leave Intake's records as the command left them. -/
theorem finishCommand_intake (code : BitVec 8) (out : CmdOut) : (finishCommand code out).intake = out.2.2.intake := by
  simp [finishCommand]

/-! ## Register writes -/

theorem writeReg_intake {r : Reg} (other : isOther r = true) (w : Word) (ident : r ≠ .ident) :
    (writeReg r w s).intake = s.intake := by
  cases r <;> simp [isOther] at other ident
  case linkcfg => simp only [writeReg, writeLinkcfg]; split <;> simp
  case tickdiv => simp only [writeReg, writeTickdiv]; split <;> simp
  case quota => simp only [writeReg, writeQuota]; split <;> simp
  case routecfg => simp only [writeReg, writeRoutecfg]; split <;> simp
  case dozecfg => simp only [writeReg, writeDozecfg]; split <;> simp
  case hmark => simp only [writeReg, writeHmark]; split <;> simp
  all_goals simp [writeReg, writeHoldcfg, writeBoard, writeBoardrd, writeBoardwr]

theorem writeReg_quota {r : Reg} (other : isOther r = true) (w : Word) (quota : r ≠ .quota) :
    (writeReg r w s).cfg.quota = s.cfg.quota := by
  cases r <;> simp [isOther] at other quota
  case ident =>
    simp only [writeReg, writeIdent]
    repeat' split
    all_goals simp
  case linkcfg => simp only [writeReg, writeLinkcfg]; split <;> simp
  case tickdiv => simp only [writeReg, writeTickdiv]; split <;> simp
  case routecfg => simp only [writeReg, writeRoutecfg]; split <;> simp
  case dozecfg => simp only [writeReg, writeDozecfg]; split <;> simp
  case hmark => simp only [writeReg, writeHmark]; split <;> simp
  all_goals simp [writeReg, writeHoldcfg, writeBoard, writeBoardrd, writeBoardwr]

end

end Sys2Proof.Linkage
end

section
/-! What Intake does to its inboxes and its repeat records (R88, R94, R100, R102), and both as every step keeps them
(R92, R100, R101). -/

namespace Sys2Proof.Linkage

open Sys2Proof.Machine Sys2Proof.Safety

/-! ## Deliveries and records -/

/-- The inboxes after at most one delivery of the parcel `p`: into an inbox below its quota, with the source and the
payload of `p` (R100, R102). -/
def Delivered (p : Parcel) (s t : State) : Prop :=
  t.intake.inboxes = s.intake.inboxes ∨ ∃ (n : Fin 4) (r : InRecord),
    s.intake.inboxes[n].length < s.cfg.quota[n].toNat ∧ r.source = p.source ∧ r.payload = p.payload ∧
    t.intake.inboxes = s.intake.inboxes.set n (s.intake.inboxes[n] ++ [r])

/-- A repeat record as it may be set: a tag 1..15, and value 0 for a PUT (R92). -/
def SettableRecord (r : RepeatRecord) : Prop := r.tag ≠ 0 ∧ (r.kind = .put → r.value = 0)

/-- The repeat records after at most one of them was emptied or set (R94). -/
def Recorded (s t : State) : Prop :=
  t.intake.repeats = s.intake.repeats ∨ ∃ (i : Fin 30) (x : Option RepeatRecord),
    (∀ r, x = some r → SettableRecord r) ∧ t.intake.repeats = s.intake.repeats.set i x

section
variable {s t u : State} {p : Parcel}

theorem Delivered.of_eq (h : t.intake = s.intake) : Delivered p s t := .inl (by rw [h])
theorem Recorded.of_eq (h : t.intake = s.intake) : Recorded s t := .inl (by rw [h])

theorem Delivered.before (h : Delivered p t u) (intake : t.intake = s.intake) (cfg : t.cfg = s.cfg) :
    Delivered p s u := by
  simpa only [Delivered, intake, cfg] using h
theorem Recorded.before (h : Recorded t u) (intake : t.intake.repeats = s.intake.repeats) : Recorded s u := by
  simpa only [Recorded, intake] using h
theorem Delivered.after (h : Delivered p s t) (intake : u.intake.inboxes = t.intake.inboxes) : Delivered p s u := by
  simpa only [Delivered, intake] using h

theorem recorded_setRepeat {x : Option RepeatRecord} (src : BitVec 5) (settable : ∀ r, x = some r → SettableRecord r) :
    Recorded s (setRepeat src x s) := by
  unfold setRepeat
  split
  · rename_i node
    exact .inr ⟨⟨src.toNat - 1, by omega⟩, x, settable, rfl⟩
  · exact .inl rfl

@[simp] theorem setRepeat_inboxes (src : BitVec 5) (x : Option RepeatRecord) :
    (setRepeat src x s).intake.inboxes = s.intake.inboxes := by
  unfold setRepeat
  split <;> rfl

/-! ## Step 8 for a PUT, steps 9 and 10 -/

theorem servePut_delivered (hit : IdHit) (p : Parcel) (s : State) :
    Delivered p s (servePut hit p s).2 ∧ (servePut hit p s).2.intake.repeats = s.intake.repeats := by
  unfold servePut
  split
  · rename_i n _
    split
    · simp [Delivered]
    · rename_i room
      refine ⟨.inr ⟨n, ⟨p.source, hit, p.cls, if hit = .broadcast then 0 else p.tag, p.payload, s.intake.arrival⟩,
        ?_, rfl, rfl, by simp [deliver]⟩, by simp [deliver]⟩
      exact Nat.not_le.mp fun full => room (decide_eq_true full)
  · exact ⟨.inl rfl, rfl⟩
  · exact ⟨.inl rfl, rfl⟩

theorem finishCall_inboxes (p : Parcel) (v : Served) (s : State) :
    (finishCall p v s).2.intake.inboxes = s.intake.inboxes := by
  simp only [finishCall, updateRecord]
  repeat' split
  all_goals simp

/-- Step 10 sets no record but of a PUT or SWAP with a tag, whose value is 0 for a PUT (R94). -/
theorem finishCall_recorded (p : Parcel) (v : Served) (s : State) : Recorded s (finishCall p v s).2 := by
  have lease : (renewLease p v s).intake.repeats = s.intake.repeats := by simp
  refine Recorded.before ?_ lease
  simp only [finishCall, updateRecord]
  split
  · exact .inl rfl
  · split
    · split
      · exact recorded_setRepeat _ nofun
      · exact .inl rfl
    · rename_i tagged
      split
      · exact recorded_setRepeat _ fun r is => by
          obtain rfl := Option.some.inj is
          exact ⟨tagged, fun _ => rfl⟩
      · split
        · exact recorded_setRepeat _ fun r is => by
            obtain rfl := Option.some.inj is
            exact ⟨tagged, nofun⟩
        · exact .inl rfl

/-- A call whose service leaves Intake's records to steps 9 and 10. -/
theorem finishCall_moves (v : Served) (served : t.intake = s.intake) :
    Delivered p s (finishCall p v t).2 ∧ Recorded s (finishCall p v t).2 :=
  ⟨.inl ((finishCall_inboxes p v t).trans (by rw [served])), (finishCall_recorded p v t).before (by rw [served])⟩

/-! ## The steps of Intake (R88) -/

theorem serveUnicast_moves (hit : IdHit) (p : Parcel) (s : State) :
    Delivered p s (serveUnicast hit p s).2 ∧ Recorded s (serveUnicast hit p s).2 := by
  unfold serveUnicast
  split
  · exact finishCall_moves _ (by simp)
  · split
    · obtain ⟨delivered, repeats⟩ := servePut_delivered hit p s
      exact ⟨delivered.after (finishCall_inboxes ..), (finishCall_recorded ..).before repeats⟩
    · split
      · exact finishCall_moves _ rfl
      · exact finishCall_moves _ (by simp)

theorem intakeFromClaim_moves (hit : IdHit) (p : Parcel) (s : State) :
    Delivered p s (intakeFromClaim hit p s).2 ∧ Recorded s (intakeFromClaim hit p s).2 := by
  unfold intakeFromClaim
  repeat' split
  · exact (servePut_delivered hit p s).imp_right .inl
  · exact finishCall_moves _ (by simp)
  · exact finishCall_moves _ (by simp)
  · exact ⟨.inl rfl, .inl rfl⟩
  · exact serveUnicast_moves hit p s

theorem intake_moves (p : Parcel) (s : State) : Delivered p s (intake p s).2 ∧ Recorded s (intake p s).2 := by
  have nothing : Delivered p s s ∧ Recorded s s := ⟨.inl rfl, .inl rfl⟩
  unfold intake
  dsimp only
  split
  · exact ⟨.of_eq (by simp), .of_eq (by simp)⟩
  · split
    · unfold intakeRouse
      dsimp only
      split
      · exact ⟨.of_eq (by simp), .of_eq (by simp)⟩
      · exact finishCall_moves _ (by simp)
    · split
      · exact nothing
      · split
        · unfold intakeDozing
          split
          · rename_i i _
            obtain ⟨delivered, recorded⟩ := intakeFromClaim_moves (s.cfg.ident.hit p.dest) p (wakeByFilter i s)
            exact ⟨delivered.before (by simp) (by simp), recorded.before (by simp)⟩
          · split <;> exact nothing
        · exact intakeFromClaim_moves _ p s

/-- A reception changes Intake's records by the decision on a good call alone (R37). -/
theorem dispose_moves (w : Bool) (r : RxResult) (s : State) : (dispose w r s).2.intake = s.intake ∨
    ∃ p, r = .good p ∧ isAnswerKind p.kind = false ∧ (dispose w r s).2 = (intake p s).2 := by
  unfold dispose
  split
  · split <;> exact .inl rfl
  · rename_i p
    split
    · exact .inl (by simp)
    · rename_i call
      split
      · exact .inr ⟨p, rfl, Bool.eq_false_iff.mpr call, rfl⟩
      · exact .inl rfl
  · exact .inl rfl

theorem receptionEnds_intake (w : Option Parcel) (r : RxResult) (s : State) :
    (receptionEnds w r s).intake = (disposed w r s).intake := by
  rcases d : dispose w.isSome r (StrandBus.endAttempt w r (countReception r s)) with ⟨_ | a, u⟩
  · rw [StrandBus.receptionEnds_unanswered d, disposed, d]
    simp
  · rw [StrandBus.receptionEnds_answered d, disposed, d]
    simp

end

end Sys2Proof.Linkage

namespace Sys2Proof.Safety

open Sys2Proof.Machine Sys2Proof.Linkage

section
variable {s t : State} {p : Parcel}

/-- A parcel whose record may stand in an inbox (R7, R100). -/
def Deliverable (p : Parcel) : Prop := p.payload.length ≤ Config.maxPayload ∧ p.source ≠ 0 ∧ p.source ≠ 31

/-- No form rule permits a call more than 32 bytes (R17). -/
theorem lengthPermitted_le {k : BitVec 4} {n : Nat} (permitted : lengthPermitted k n = true) : n ≤ 32 := by
  unfold lengthPermitted at permitted
  repeat' split at permitted
  all_goals simp at permitted
  all_goals omega

theorem deliverable_of_wellFormed (form : p.malformed = false) (call : isAnswerKind p.kind = false) : Deliverable p := by
  refine ⟨?_, source_of_wellFormed form⟩
  simp only [Parcel.malformed, Bool.or_eq_false_iff, Bool.and_eq_false_iff, Bool.not_eq_false', and_assoc] at form
  obtain ⟨kind, -, -, -, -, -, length⟩ := form
  rw [call, Bool.or_false] at kind
  exact lengthPermitted_le (length.resolve_left (by simp [kind]))

/-! ## Inboxes within their quotas (R100, R101) -/

theorem InboxesFit.of_eq (h : InboxesFit s) (inboxes : t.intake.inboxes = s.intake.inboxes)
    (quota : t.cfg.quota = s.cfg.quota) : InboxesFit t := by
  simpa only [InboxesFit, State.occupancy, inboxes, quota] using h

theorem InboxesFit.of_intake (h : InboxesFit s) (intake : t.intake = s.intake) (cfg : t.cfg = s.cfg) : InboxesFit t :=
  h.of_eq (by rw [intake]) (by rw [cfg])

theorem inboxesFit_empty (empty : t.intake = {}) : InboxesFit t := by
  intro n
  simp [State.occupancy, empty]

/-- One inbox replaced by legal records within its quota. -/
theorem InboxesFit.set (h : InboxesFit s) {n : Fin 4} {rs : List InRecord} (room : rs.length ≤ s.cfg.quota[n].toNat)
    (legal : ∀ r ∈ rs, recordLegal r) (inboxes : t.intake.inboxes = s.intake.inboxes.set n rs)
    (quota : t.cfg.quota = s.cfg.quota) : InboxesFit t := by
  intro k
  simp only [State.occupancy, inboxes, quota, Fin.getElem_fin, Vector.getElem_set]
  split
  · rename_i same
    obtain rfl := Fin.ext same
    exact ⟨room, legal⟩
  · exact h k

theorem InboxesFit.delivered (h : InboxesFit s) (legal : Deliverable p) (moves : Delivered p s t)
    (quota : t.cfg.quota = s.cfg.quota) : InboxesFit t := by
  obtain same | ⟨n, r, room, source, payload, inboxes⟩ := moves
  · exact h.of_eq same quota
  · refine h.set (by simpa using room) (fun x stands => ?_) inboxes quota
    obtain old | rfl := (List.mem_append.mp stands).imp_right List.mem_singleton.mp
    · exact (h n).2 x old
    · rw [recordLegal, source, payload]
      exact legal

theorem InboxesFit.onParcel (h : InboxesFit s) (items : List LineItem) : InboxesFit (onParcel items s) := by
  refine onParcel_induction items h fun w r _ rx => ?_
  obtain ⟨cfg, -, intake, -⟩ := endAttempt_frame w r s
  have attempt : InboxesFit (StrandBus.endAttempt w r (countReception r s)) := h.of_intake intake cfg
  obtain ⟨cfg', -⟩ := receptionEnds_blocks w r s
  refine InboxesFit.of_intake (s := disposed w r s) ?_ (receptionEnds_intake w r s) cfg'
  obtain same | ⟨p, rfl, call, decided⟩ := dispose_moves w.isSome r (StrandBus.endAttempt w r (countReception r s))
  · exact attempt.of_intake same (by simp [disposed])
  · rw [disposed, decided]
    exact attempt.delivered (deliverable_of_wellFormed (wellFormed_of_receive rx) call) (intake_moves p _).1 (by simp)

theorem InboxesFit.line {c : Instr} {f : State → State} (is : lineEffect c = some f) (h : InboxesFit s) :
    InboxesFit (f s) := by
  obtain ⟨items, rfl⟩ | same := line_intake s is
  · exact h.onParcel items
  · exact h.of_intake same (line_frame is s).cfg

/-- Records leave an inbox at a command, and none joins it (R105). -/
theorem InboxesFit.setInbox (h : InboxesFit s) (n : Fin 4) {rs : List InRecord} (left : rs.Sublist s.intake.inboxes[n]) :
    InboxesFit (setInbox n rs s) :=
  h.set (left.length_le.trans (h n).1) (fun r stands => (h n).2 r (left.subset stands)) (by simp [Machine.setInbox])
    (by simp [Machine.setInbox])

theorem InboxesFit.command {c : Instr} {code : BitVec 8} {f : State → CmdOut} (is : commandOf c = some (code, f))
    (h : InboxesFit s) : InboxesFit (f s).2.2 := by
  obtain ⟨a, rfl | rfl⟩ | same := command_intake s is
  · cases is
    unfold cmdInboxPop
    split
    · exact h
    · split
      · exact h
      · rename_i r rest records
        exact h.setInbox _ (records ▸ List.sublist_cons_self r rest)
  · cases is
    unfold cmdInboxFlush
    split
    · exact h
    · exact h.setInbox _ (List.nil_sublist _)
  · exact h.of_eq (by rw [same]) (by rw [command_cfg is])

/-- No quota is written below the occupancy of its inbox (R101). -/
theorem InboxesFit.writeQuota (h : InboxesFit s) (w : Word) : InboxesFit (writeQuota w s) := by
  unfold Machine.writeQuota
  dsimp only
  split
  · rename_i taken
    obtain ⟨-, -, fits⟩ := taken
    intro n
    have room : s.occupancy n ≤ (inboxByte w n).toNat := by simpa using List.all_eq_true.mp fits n (List.mem_finRange n)
    exact ⟨by simpa [State.occupancy] using room, (h n).2⟩
  · exact h.of_intake (by simp) (by simp)

theorem writeIdent_inboxes (w : Word) : (writeIdent w s).intake.inboxes = s.intake.inboxes := by
  rw [writeIdent_eq]
  dsimp only
  split <;> rfl

theorem hostKept_inboxesFit : HostKept InboxesFit InboxesFit where
  nothing := id
  command is h code := (h.command is).of_intake (finishCommand_intake ..) (finishCommand_frame ..).1
  undefined h code := h.of_intake (finishCommand_intake ..) (finishCommand_frame ..).1
  softReset h := inboxesFit_empty rfl
  enable h f := h.of_intake (by simp) (by simp)
  disable h f := h.of_intake (by simp) (by simp)
  clear h w keep := h.of_intake (by simp) (by simp)
  read h := h.of_intake rfl rfl
  register {s r} other h w := by
    by_cases quota : r = .quota
    · subst quota
      exact h.writeQuota w
    · by_cases ident : r = .ident
      · subst ident
        exact h.of_eq (writeIdent_inboxes w) (writeReg_quota s other w quota)
      · exact h.of_eq (by rw [writeReg_intake s other w ident]) (writeReg_quota s other w quota)

theorem kept_inboxesFit : Kept InboxesFit InboxesFit where
  line is h := h.line is
  expiry h := h.of_intake (expiry_intake ..) (expiry_frame _ _).1.cfg
  dozes h := h.of_intake (by simp) (by simp)
  host act h := hostKept_inboxesFit.host act h
  ends h := h.of_intake (by simp) (by simp)
  drops h := h.of_intake (by simp) (by simp)
  marks h := h.of_intake rfl rfl
  clears h := h.of_intake rfl rfl
  cycles h := h.of_intake (nextEdge_frame _).intake (nextEdge_frame _).cfg
  pin h := h.of_intake rfl rfl
  resets := inboxesFit_empty rfl
  waits h := h.of_intake rfl rfl
  reads h := h.of_intake rfl rfl

/-! ## Repeat records (R92) -/

theorem RepeatsLegal.of_eq (h : RepeatsLegal s) (repeats : t.intake.repeats = s.intake.repeats) : RepeatsLegal t := by
  simpa only [RepeatsLegal, repeats] using h

theorem RepeatsLegal.of_intake (h : RepeatsLegal s) (intake : t.intake = s.intake) : RepeatsLegal t :=
  h.of_eq (by rw [intake])

theorem repeatsLegal_empty (empty : t.intake.repeats = Vector.replicate _ none) : RepeatsLegal t := by
  intro i r
  simp [empty]

theorem RepeatsLegal.recorded (h : RepeatsLegal s) (moves : Recorded s t) : RepeatsLegal t := by
  obtain same | ⟨k, x, settable, repeats⟩ := moves
  · exact h.of_eq same
  · intro i r stands
    simp only [repeats, Fin.getElem_fin, Vector.getElem_set] at stands
    split at stands
    · exact settable r stands
    · exact h i r stands

theorem RepeatsLegal.onParcel (h : RepeatsLegal s) (items : List LineItem) : RepeatsLegal (onParcel items s) := by
  refine onParcel_induction items h fun w r _ _ => ?_
  obtain ⟨-, -, intake, -⟩ := endAttempt_frame w r s
  have attempt : RepeatsLegal (StrandBus.endAttempt w r (countReception r s)) := h.of_intake intake
  refine RepeatsLegal.of_intake (s := disposed w r s) ?_ (receptionEnds_intake w r s)
  obtain same | ⟨p, -, -, decided⟩ := dispose_moves w.isSome r (StrandBus.endAttempt w r (countReception r s))
  · exact attempt.of_intake same
  · rw [disposed, decided]
    exact attempt.recorded (intake_moves p _).2

theorem RepeatsLegal.line {c : Instr} {f : State → State} (is : lineEffect c = some f) (h : RepeatsLegal s) :
    RepeatsLegal (f s) := by
  obtain ⟨items, rfl⟩ | same := line_intake s is
  · exact h.onParcel items
  · exact h.of_intake same

theorem setInbox_repeats (n : Fin 4) (rs : List InRecord) : (setInbox n rs s).intake.repeats = s.intake.repeats := by
  simp [setInbox]

theorem RepeatsLegal.command {c : Instr} {code : BitVec 8} {f : State → CmdOut} (is : commandOf c = some (code, f))
    (h : RepeatsLegal s) : RepeatsLegal (f s).2.2 := by
  obtain ⟨a, rfl | rfl⟩ | same := command_intake s is
  · cases is
    unfold cmdInboxPop
    repeat' split
    · exact h
    · exact h
    · exact h.of_eq (setInbox_repeats ..)
  · cases is
    unfold cmdInboxFlush
    split
    · exact h
    · exact h.of_eq (setInbox_repeats ..)
  · exact h.of_intake same

/-- A write of IDENT leaves the records or empties them all (R85). -/
theorem RepeatsLegal.writeIdent (h : RepeatsLegal s) (w : Word) : RepeatsLegal (writeIdent w s) := by
  unfold Machine.writeIdent
  dsimp only
  repeat' split
  · exact h.of_intake (by simp)
  · exact h.of_intake rfl
  · exact repeatsLegal_empty rfl

theorem hostKept_repeatsLegal : HostKept RepeatsLegal RepeatsLegal where
  nothing := id
  command is h code := (h.command is).of_intake (finishCommand_intake ..)
  undefined h code := h.of_intake (finishCommand_intake ..)
  softReset h := repeatsLegal_empty rfl
  enable h f := h.of_intake (by simp)
  disable h f := h.of_intake (by simp)
  clear h w keep := h.of_intake (by simp)
  read h := h.of_intake rfl
  register {s r} other h w := by
    by_cases ident : r = .ident
    · subst ident
      exact h.writeIdent w
    · exact h.of_intake (writeReg_intake s other w ident)

theorem kept_repeatsLegal : Kept RepeatsLegal RepeatsLegal where
  line is h := h.line is
  expiry h := h.of_intake (expiry_intake ..)
  dozes h := h.of_intake (by simp)
  host act h := hostKept_repeatsLegal.host act h
  ends h := h.of_intake (by simp)
  drops h := h.of_intake (by simp)
  marks h := h.of_intake rfl
  clears h := h.of_intake rfl
  cycles h := h.of_intake (nextEdge_frame _).intake
  pin h := h.of_intake rfl
  resets := repeatsLegal_empty rfl
  waits h := h.of_intake rfl
  reads h := h.of_intake rfl

end

/-- Settles O54, invariant by invariant. -/
theorem stepKeepsInboxesAndRepeats : Obligations.StepKeepsInboxesAndRepeats :=
  fun _ _ run => ⟨kept_inboxesFit.step run, kept_repeatsLegal.step run⟩

end Sys2Proof.Safety
end

section
/-! TABLE_WRITE, INBOX_POP and INBOX_FLUSH (R99, R105, R149, R166). -/

namespace Sys2Proof.Calling

open Sys2Proof.Machine Sys2Proof.Safety Sys2Proof.Linkage

variable {s : State}

/-! ## Entries as TBLDATA0 carries them -/

/-- The bits of a word from bit `lo` on, put back in their place. -/
theorem placed_extract {lo w : Nat} (d : Word) : placed lo (d.extractLsb' lo w) = d &&& placed lo (BitVec.allOnes w) := by
  refine BitVec.eq_of_getLsbD_eq fun i lt => ?_
  by_cases below : i < lo
  · simp [placed, below]
  · have place : lo + (i - lo) = i := by omega
    simp [placed, lt, below, place, Bool.and_comm]

theorem flag_getLsbD (lo : Nat) (d : Word) : flag lo (d.getLsbD lo) = placed lo (d.extractLsb' lo 1) := by
  rw [← placed_bit]
  congr 1
  exact BitVec.eq_of_getLsbD_eq fun i lt => by
    obtain rfl : i = 0 := by omega
    simp

theorem actionCode_of_ofCode {c : BitVec 2} {a : RouteAction} (is : RouteAction.ofCode c = some a) : a.code = c := by
  revert c a
  decide

theorem actionOfCode_none {c : BitVec 2} : RouteAction.ofCode c = none ↔ c = 3#2 := by
  revert c
  decide

theorem route_ofWord_none {d : Word} (illegal : d.extractLsb' 0 5 = 31#5 ∨ d.extractLsb' 20 2 = 3#2) :
    Route.ofWord d = none := by
  unfold Route.ofWord
  split
  · rfl
  · rename_i a action
    have code : d.extractLsb' 20 2 ≠ 3#2 := fun three => by
      rw [actionOfCode_none.mpr three] at action
      cases action
    exact if_pos (illegal.resolve_right code)

/-- A legal word of TBLDATA0 is read back in the bits that R99 names. -/
theorem route_ofWord_legal {d : Word} (source : d.extractLsb' 0 5 ≠ 31#5) (action : d.extractLsb' 20 2 ≠ 3#2) :
    ∃ r, Route.ofWord d = some r ∧ r.word = d &&& 0x8033F71F#32 := by
  obtain ⟨a, code⟩ := Option.ne_none_iff_exists'.mp (actionOfCode_none.not.mpr action)
  refine ⟨_, by simp only [Route.ofWord, code, if_neg (show ¬ d.extractLsb' 0 5 = 31 from source)]; rfl, ?_⟩
  rw [route_word, ← placed_actionCode, actionCode_of_ofCode code]
  have inbox : field 16 2 (toClass (d.extractLsb' 16 2)).val = placed 16 (d.extractLsb' 16 2) := field_toNat ..
  simp only [field_toNat, inbox, flag_getLsbD, placed_extract, ← BitVec.and_or_distrib_left]
  rfl

theorem filter_ofWord_none {d : Word} (illegal : d.extractLsb' 0 5 = 31#5) : WakeFilter.ofWord d = none := if_pos illegal

/-- A legal word of TBLDATA0 is read back in the bits that R149 names. -/
theorem filter_ofWord_legal {d : Word} (source : d.extractLsb' 0 5 ≠ 31#5) :
    ∃ f, WakeFilter.ofWord d = some f ∧ f.word = d &&& 0x87FFFF1F#32 := by
  refine ⟨_, if_neg source, ?_⟩
  rw [filter_word]
  simp only [field_toNat, flag_getLsbD, placed_extract, ← BitVec.and_or_distrib_left]
  rfl

/-! ## TABLE_WRITE -/

/-- TABLE_WRITE takes the word `d` for entry `i` of a table (R99, R149, R166). -/
def EntryLegal (d : Word) (table : BitVec 2) (i : Nat) : Prop :=
  d.extractLsb' 0 5 ≠ 31#5 ∧ ((table = 0 ∧ i < 16 ∧ d.extractLsb' 20 2 ≠ 3#2) ∨ (table = 1 ∧ i < 4))

theorem writeEntry_routes {i : Nat} (inTable : i < 16) : s.writeEntry 0 i = (Route.ofWord s.host.tbldata0).map fun r =>
    { s with cfg := { s.cfg with routes := s.cfg.routes.set i r } } := by
  rw [State.writeEntry, if_pos rfl, dif_pos inTable]

theorem writeEntry_filters {i : Nat} (inTable : i < 4) :
    s.writeEntry 1 i = (WakeFilter.ofWord s.host.tbldata0).map fun f =>
      { s with cfg := { s.cfg with filters := s.cfg.filters.set i f } } := by
  rw [State.writeEntry, if_neg (by decide), if_pos rfl, dif_pos inTable]

theorem writeEntry_illegal {table : BitVec 2} {i : Nat} (illegal : ¬ EntryLegal s.host.tbldata0 table i) :
    s.writeEntry table i = none := by
  have either {bad : Prop} [Decidable bad] (other : s.host.tbldata0.extractLsb' 0 5 ≠ 31#5 → bad) :
      s.host.tbldata0.extractLsb' 0 5 = 31#5 ∨ bad := or_iff_not_imp_left.mpr other
  by_cases routes : table = 0
  · subst routes
    by_cases inTable : i < 16
    · rw [writeEntry_routes inTable, route_ofWord_none (either fun source => ?_), Option.map_none]
      by_contra action
      exact illegal ⟨source, .inl ⟨rfl, inTable, action⟩⟩
    · rw [State.writeEntry, if_pos rfl, dif_neg inTable]
  · by_cases filters : table = 1
    · subst filters
      by_cases inTable : i < 4
      · rw [writeEntry_filters inTable, filter_ofWord_none (by_contra fun source => ?_), Option.map_none]
        exact illegal ⟨source, .inr ⟨rfl, inTable⟩⟩
      · rw [State.writeEntry, if_neg routes, if_pos rfl, dif_neg inTable]
    · rw [State.writeEntry, if_neg routes, if_neg filters]

section
variable {arg : BitVec 24} {table : BitVec 2} {i : Nat} (address : s.tableAddress arg = (table, i))
include address

theorem finish_tableWrite_refused (illegal : ¬ EntryLegal s.host.tbldata0 table i) :
    finishCommand 0x0D (cmdTableWrite arg s) = commandRefused 0x0D .badArgument 0 s := by
  simp only [cmdTableWrite, address, writeEntry_illegal illegal]
  exact finishCommand_refuse _ _ _ nofun

/-- The state that TABLE_WRITE leaves, said with the tables that stand in it. -/
theorem finish_tableWrite_taken {u : State} (written : s.writeEntry table i = some u) :
    finishCommand 0x0D (cmdTableWrite arg s) = commandOk 0x0D 0 { s with
      cfg := { s.cfg with routes := u.cfg.routes, filters := u.cfg.filters }
      host := { s.host with tblIndex := if arg.getLsbD 23 then s.host.tblIndex + 1 else s.host.tblIndex } } := by
  simp only [cmdTableWrite, address, written, advanceSel_eq]
  rw [writeEntry_eq s written]
  rfl

end

theorem afterHost_cfg (t : State) : (afterHost t).cfg = t.cfg := by
  simp [afterHost, clearEdge]

/-- An entry replaced in its table, the others as they were. -/
theorem getElem_set_entry {α : Type} {n : Nat} {v : Vector α n} {i : Nat} (inTable : i < n) {x : α} {Q : α → Prop}
    (q : Q x) (k : Fin n) : (k.val = i → Q (v.set i x)[k]) ∧ (k.val ≠ i → (v.set i x)[k] = v[k]) := by
  refine ⟨fun here => ?_, fun elsewhere => ?_⟩
  · subst here
    simpa using q
  · simp [Ne.symm elsewhere]

/-- Settles O26: the entry that the word in TBLDATA0 makes, in the table that the argument or TBLSEL addresses. -/
theorem tableWriteStoresEntry : Obligations.TableWriteStoresEntry := by
  intro arg now s running is sel table i d next legal
  have address : s.tableAddress arg = (table, i.toNat) := tableAddress_eq s arg
  rw [exec_tableWrite now running arg, ← is]
  refine ⟨fun illegal => by rw [finish_tableWrite_refused address illegal], ?_⟩
  rintro ⟨source, ⟨table0, inTable, action⟩ | ⟨table1, inTable⟩⟩
  · obtain ⟨r, entry, word⟩ := route_ofWord_legal source action
    have written : s.writeEntry table i.toNat = some { s with cfg := { s.cfg with
        routes := s.cfg.routes.set i.toNat r } } := by rw [table0, writeEntry_routes inTable, entry, Option.map_some]
    rw [finish_tableWrite_taken address written]
    refine ⟨_, rfl, by rw [afterHost_cfg]; rfl, fun _ => ?_,
      fun table1 => absurd (table0.symm.trans table1) (by decide)⟩
    rw [afterHost_cfg]
    exact ⟨rfl, getElem_set_entry (Q := fun x : Route => x.word = _) inTable word⟩
  · obtain ⟨f, entry, word⟩ := filter_ofWord_legal source
    have written : s.writeEntry table i.toNat = some { s with cfg := { s.cfg with
        filters := s.cfg.filters.set i.toNat f } } := by rw [table1, writeEntry_filters inTable, entry, Option.map_some]
    rw [finish_tableWrite_taken address written]
    refine ⟨_, rfl, by rw [afterHost_cfg]; rfl,
      fun table0 => absurd (table0.symm.trans table1) (by decide), fun _ => ?_⟩
    rw [afterHost_cfg]
    exact ⟨rfl, getElem_set_entry (Q := fun x : WakeFilter => x.word = _) inTable word⟩

/-! ## INBOX_POP and INBOX_FLUSH -/

/-- Settles O24: the branches of the two commands; what they leave of the inbox is then compared with its marks. -/
theorem inboxesPoppedAndFlushed : Obligations.InboxesPoppedAndFlushed := by
  intro arg now s running is
  rw [exec_inboxPop now running, exec_inboxFlush now running, ← is]
  refine ⟨fun beyond => ?_, fun n named => ⟨fun empty => ?_, fun r rest records => ?_, ?_⟩⟩
  · rw [cmdInboxPop, cmdInboxFlush, argFour_of_ge arg beyond]
    exact ⟨rfl, rfl⟩
  · simp only [cmdInboxPop, argFour_of_lt arg n named, empty]
    rfl
  · simp only [cmdInboxPop, argFour_of_lt arg n named, records]
    rfl
  · rw [cmdInboxFlush, argFour_of_lt arg n named]
    rfl

end Sys2Proof.Calling
end

section
/-! Steps 2 to 5 and 7 of Intake, and step 8 for a PUT (R88): HOLD and ROUSE, intake off and doze, repeats, routing. -/

namespace Sys2Proof.Calling

open Sys2Proof.Machine Sys2Proof.Safety Sys2Proof.Linkage

variable {s t : State} {p : Parcel}

/-! ## HOLD (R119) -/

/-- The incoming hold timers after a HOLD (R119). -/
def heldTimers (p : Parcel) (s : State) : Vector (Option Timer) 4 :=
  Vector.ofFn fun c : Fin 4 =>
    if (p.byte 0).getLsbD c then Timer.start s.div ((p.byte 1 ++ p.byte 2).toNat * s.quantum) else s.hold.timers[c]

theorem intake_hold (hold : p.kind = Config.kindHold) : intake p s = (none,
    if s.cfg.holdcfg.inEn then raise .holdIn { s with hold := { s.hold with timers := heldTimers p s } } else s) := by
  simp only [intake, if_pos hold]
  rfl

/-- A time of 0 quanta ends a hold; any other time runs in full (R118, R119). -/
theorem start_quanta (div rate quanta : Nat) : Timer.start div (quanta * (32 * 2 ^ rate)) =
    if quanta = 0 then none else some { us := quanta * (32 * 2 ^ rate), cyc := div + 1 } := by
  simp [Timer.start]

theorem toNat_bytes (high low : Byte) : (high ++ low).toNat = high.toNat * 256 + low.toNat := by
  rw [BitVec.toNat_append, ← Nat.shiftLeft_add_eq_or_of_lt low.isLt, Nat.shiftLeft_eq]

theorem heldTimers_getElem (c : Fin 4) : (heldTimers p s)[c] =
    let quanta := (p.payload.getD 1 0).toNat * 256 + (p.payload.getD 2 0).toNat
    if (p.payload.getD 0 0).getLsbD c = false then s.hold.timers[c]
    else if quanta = 0 then none
    else some { us := quanta * (32 * 2 ^ s.cfg.linkcfg.rate.toNat), cyc := s.div + 1 } := by
  simp only [heldTimers, Fin.getElem_fin, Vector.getElem_ofFn, toNat_bytes, State.quantum, start_quanta, Parcel.byte]
  cases (p.payload.getD 0 0).getLsbD c <;> rfl

/-! ## ROUSE (R89) -/

/-- What the Doze Unit makes of a ROUSE, by its state (R89, R146). -/
theorem dozeRouse_eq (s : State) : dozeRouse s =
    if s.cfg.dozecfg.rouseWake = false ∨ s.doze.state = .awake then s
    else if s.doze.state = .pending then { s with doze := { s.doze with state := .awake } }
    else
      let t := raise .woken { s with doze := { s.doze with state := .awake, causes := s.doze.causes ||| 2#4 } }
      { t with events := { t.events with edgeWoken := true } } := by
  unfold dozeRouse
  cases enabled : s.cfg.dozecfg.rouseWake with
  | false => rfl
  | true => cases state : s.doze.state <;> rfl

theorem intake_rouse (rouse : p.kind = Config.kindRouse) : intake p s = intakeRouse (s.cfg.ident.hit p.dest) p s := by
  have notHold : p.kind ≠ Config.kindHold := by
    rw [rouse]
    decide
  simp only [intake, if_neg notHold, if_pos rouse]

theorem hit_broadcast (broadcast : p.dest = 0) : s.cfg.ident.hit p.dest = .broadcast := if_pos broadcast

theorem intake_rouse_broadcast (rouse : p.kind = Config.kindRouse) (broadcast : p.dest = 0) :
    intake p s = (none, dozeRouse s) := by
  rw [intake_rouse rouse, intakeRouse, if_pos (hit_broadcast broadcast)]

/-- A unicast ROUSE is answered while intake is enabled, ACK unless the controller is still dozing (R89). -/
theorem intake_rouse_unicast (rouse : p.kind = Config.kindRouse) (unicast : p.dest ≠ 0) : intake p s =
    if s.sctl.intakeEn = false then (none, dozeRouse s)
    else if (dozeRouse s).doze.state = .dozing then (some (.defer Config.reasonDozing), dozeRouse s)
    else (some (.ack []), forgotten p (renewed p (dozeRouse s))) := by
  have sctl : (dozeRouse s).sctl = s.sctl := by simp
  have notPut : p.kind ≠ Config.kindPut := by
    rw [rouse]
    decide
  have notSwap : p.kind ≠ Config.kindSwap := by
    rw [rouse]
    decide
  rw [intake_rouse rouse, intakeRouse, if_neg (hit_ne_broadcast unicast)]
  simp only [sctl, Bool.not_eq_true']
  split
  · exact finishCall_turned rfl rfl
  · split
    · exact finishCall_turned rfl rfl
    · exact finishCall_acked rfl rfl notPut notSwap

/-- Settles O45: HOLD and ROUSE, before intake and doze are looked at. -/
theorem holdAndRouseAtIntake : Obligations.HoldAndRouseAtIntake := by
  intro p s
  refine ⟨fun hold => ⟨heldTimers p s, intake_hold hold, fun c => heldTimers_getElem c⟩, fun rouse => ?_⟩
  rw [← dozeRouse_eq s]
  exact ⟨intake_rouse_broadcast rouse, intake_rouse_unicast rouse⟩

/-! ## Intake off, and doze (R90, R91, R149) -/

/-- The place of an identity hit in an IDSET (R86, R99). -/
theorem hit_bit (i : Ident) (dest : BitVec 5) :
    (i.hit dest).bit = if dest = 0 then 2 else if dest = i.primary then 0 else 1 := by
  unfold Ident.hit
  split
  · rfl
  · split <;> rfl

/-- Steps 4 and 5 for the calls that are neither HOLD nor ROUSE (R88). -/
theorem intake_kinds (kind : p.kind.toNat ≤ 4) : intake p s =
    if s.sctl.intakeEn = false then (none, s)
    else if s.doze.state = .dozing then intakeDozing (s.cfg.ident.hit p.dest) p s
    else intakeFromClaim (s.cfg.ident.hit p.dest) p s := by
  have other {k : BitVec 4} (large : 4 < k.toNat) : p.kind ≠ k := fun is => by
    rw [is] at kind
    exact Nat.not_le.mpr large kind
  have notHold : p.kind ≠ Config.kindHold := other (by decide)
  have notRouse : p.kind ≠ Config.kindRouse := other (by decide)
  simp only [intake, if_neg notHold, if_neg notRouse, Bool.not_eq_true']

theorem matchesBody_iff {f : WakeFilter} {payload : List Byte} : f.matchesBody payload = true ↔
    (payload = [] → f.mask = 0) ∧
      ∀ first rest, payload = first :: rest → first &&& f.mask = f.pattern &&& f.mask := by
  cases payload <;> simp [WakeFilter.matchesBody]

/-- A PUT that a wake filter lets through, by the fields of the filter (R149). -/
def PassesFilter (p : Parcel) (place : Nat) (f : WakeFilter) : Prop :=
  p.kind = 0 ∧ f.valid = true ∧ (f.source = 0 ∨ f.source = p.source) ∧ f.idset.getLsbD place = true ∧
    (p.payload = [] → f.mask = 0) ∧ ∀ first rest, p.payload = first :: rest → first &&& f.mask = f.pattern &&& f.mask

theorem passesFilter_iff {f : WakeFilter} {hit : IdHit} :
    PassesFilter p hit.bit f ↔ p.kind = Config.kindPut ∧ f.matches hit p = true := by
  simp only [PassesFilter, WakeFilter.matches, Bool.and_eq_true, Bool.or_eq_true, decide_eq_true_eq, matchesBody_iff,
    and_assoc]

theorem matchingFilter_some {hit : IdHit} {i : Fin 4} (fits : s.cfg.filters[i].matches hit p = true)
    (first : ∀ j, j < i → ¬ s.cfg.filters[j].matches hit p = true) : s.matchingFilter hit p = some i := by
  rw [State.matchingFilter, ← Fin.find?_eq_find?_finRange, Fin.find?_eq_some_iff]
  exact ⟨fits, fun j before => Bool.eq_false_iff.mpr (first j before)⟩

theorem matchingFilter_none {hit : IdHit} (nowhere : ∀ i : Fin 4, ¬ s.cfg.filters[i].matches hit p = true) :
    s.matchingFilter hit p = none := by
  rw [State.matchingFilter, ← Fin.find?_eq_find?_finRange, Fin.find?_eq_none_iff]
  exact fun i => Bool.eq_false_iff.mpr (nowhere i)

theorem wakeByFilter_eq (i : Fin 4) (s : State) : wakeByFilter i s =
    let t := raise .woken { s with doze := { s.doze with
      state := .awake, causes := s.doze.causes ||| 4#4, filter := BitVec.ofFin i } }
    { t with events := { t.events with edgeWoken := true } } := by
  have index : BitVec.ofNat 2 i.val = BitVec.ofFin i := BitVec.eq_of_toNat_eq (by simp)
  rw [wakeByFilter, index]
  rfl

/-- A PUT that a filter lets through is decided as in an awake controller (R91). -/
theorem intakeDozing_woken {hit : IdHit} {i : Fin 4} (put : p.kind = Config.kindPut)
    (filter : s.matchingFilter hit p = some i) :
    intakeDozing hit p s = intakeFromClaim hit p (wakeByFilter i s) := by
  rw [intakeDozing, if_pos put, filter]

/-- Every other call finds the controller dozing still (R90). -/
theorem intakeDozing_left {hit : IdHit} (noFilter : p.kind = Config.kindPut → s.matchingFilter hit p = none) :
    intakeDozing hit p s = if hit ≠ .broadcast ∧ s.cfg.dozecfg.answerInDoze = true
      then (some (.defer Config.reasonDozing), s) else (none, s) := by
  have nobody : (if p.kind = Config.kindPut then s.matchingFilter hit p else none) = none := by
    split
    · exact noFilter ‹_›
    · rfl
  rw [intakeDozing, nobody]

theorem hit_broadcast_iff : s.cfg.ident.hit p.dest = .broadcast ↔ p.dest = 0 :=
  ⟨fun broadcast => by_contra fun unicast => hit_ne_broadcast unicast broadcast, hit_broadcast⟩

/-- Settles O46: step 4 and step 5, where the first wake filter that matches decides. -/
theorem intakeOffOrDozing : Obligations.IntakeOffOrDozing := by
  intro p s kind hit fits
  have isFit (i : Fin 4) : fits i ↔
      p.kind = Config.kindPut ∧ s.cfg.filters[i].matches (s.cfg.ident.hit p.dest) p = true := by
    rw [← passesFilter_iff, hit_bit]
    rfl
  refine ⟨fun off => by rw [intake_kinds kind, if_pos off], fun on dozing => ⟨fun none => ?_, fun i here first => ?_⟩⟩
  all_goals rw [intake_kinds kind, if_neg (by simp [on]), if_pos dozing]
  · have noFilter (put : p.kind = Config.kindPut) : s.matchingFilter (s.cfg.ident.hit p.dest) p = Option.none :=
      matchingFilter_none fun i matched => none i ((isFit i).mpr ⟨put, matched⟩)
    simp only [intakeDozing_left noFilter, ne_eq, hit_broadcast_iff]
    split <;> rfl
  · obtain ⟨put, matched⟩ := (isFit i).mp here
    have filter := matchingFilter_some matched fun j before other => first j before ((isFit j).mpr ⟨put, other⟩)
    have woken : intakeOpen (wakeByFilter i s) := ⟨by simpa using on, nofun⟩
    have awake : intake p (wakeByFilter i s) = intakeFromClaim (s.cfg.ident.hit p.dest) p (wakeByFilter i s) := by
      have same : (wakeByFilter i s).cfg = s.cfg := by simp
      rw [intake_of_open woken kind, same]
    rw [intakeDozing_woken put filter, ← awake, wakeByFilter_eq]

/-! ## Repeats (R93) -/

theorem repeatOf_some {r : RepeatRecord} {src : BitVec 5} :
    s.repeatOf src = some r ↔ ∃ i : Fin 30, src.toNat = i.val + 1 ∧ s.intake.repeats[i] = some r := by
  unfold State.repeatOf
  split
  · rename_i node
    refine ⟨fun is => ⟨⟨src.toNat - 1, by omega⟩, by dsimp only; omega, is⟩, ?_⟩
    rintro ⟨i, named, is⟩
    simpa [named] using is
  · rename_i nobody
    refine ⟨nofun, ?_⟩
    rintro ⟨i, named, -⟩
    omega

theorem repeatKindOf_iff {kind : BitVec 4} {k : RepeatKind} (recorded : kind = Config.kindPut ∨ kind = Config.kindSwap) :
    k = repeatKindOf kind ↔ kind = 0 ∧ k = .put ∨ kind = 2 ∧ k = .swap := by
  obtain rfl | rfl := recorded <;> simp [repeatKindOf]

/-- A call is a repeat of the recorded one by its tag and kind (R93). -/
theorem repeatRecord_some {r : RepeatRecord} : s.repeatRecord p = some r ↔
    s.cfg.ident.repeatEn = true ∧ p.tag ≠ 0 ∧
      (∃ i : Fin 30, p.source.toNat = i.val + 1 ∧ s.intake.repeats[i] = some r) ∧ r.tag = p.tag ∧
      (p.kind = 0 ∧ r.kind = .put ∨ p.kind = 2 ∧ r.kind = .swap) := by
  unfold State.repeatRecord
  split
  · rename_i able
    obtain ⟨enabled, tagged, kind⟩ := able
    rw [Option.filter_eq_some_iff, repeatOf_some, ← repeatKindOf_iff kind]
    simp only [Bool.and_eq_true, decide_eq_true_eq]
    exact ⟨fun ⟨stands, tag, same⟩ => ⟨enabled, tagged, stands, tag, same⟩,
      fun ⟨_, _, stands, tag, same⟩ => ⟨stands, tag, same⟩⟩
  · rename_i unable
    refine ⟨nofun, fun ⟨enabled, tagged, _, _, same⟩ => absurd ⟨enabled, tagged, ?_⟩ unable⟩
    exact same.imp And.left And.left

/-- A repeat leaves its record as it is, and renews the lease of the holder (R81, R94). -/
theorem finishCall_repeat {v : Served} (acked : v.acked = true) (again : v.isRepeat = true) :
    finishCall p v t = (v.reply, renewed p t) := by
  rw [finishCall, renewLease_acked acked]
  simp [updateRecord, again]

theorem serveUnicast_repeat {hit : IdHit} {r : RepeatRecord} (recorded : s.repeatRecord p = some r) :
    serveUnicast hit p s = (some r.reply, renewed p (count .repeats (raise .repeatSeen s))) := by
  rw [serveUnicast, recorded]
  refine finishCall_repeat ?_ rfl
  cases kind : r.kind <;> simp [Served.acked, RepeatRecord.reply, kind, Reply.ack]

theorem repeatReply_eq {r : RepeatRecord} (same : p.kind = 0 ∧ r.kind = .put ∨ p.kind = 2 ∧ r.kind = .swap) :
    r.reply = .ack (if p.kind = 0 then [] else wordBytes r.value) := by
  obtain ⟨put, kind⟩ | ⟨swap, kind⟩ := same
  · simp [RepeatRecord.reply, kind, put]
  · simp [RepeatRecord.reply, kind, swap]

/-- Settles O48: which record makes a call a repeat, and what a repeat leaves. -/
theorem repeatsAnsweredFromRecord : Obligations.RepeatsAnsweredFromRecord := by
  refine ⟨fun p s r => repeatRecord_some, fun p s i r isOpen unicast free enabled tagged source stands tag same => ?_⟩
  have recorded := repeatRecord_some.mpr ⟨enabled, tagged, ⟨i, source, stands⟩, tag, same⟩
  have kind : p.kind.toNat ≤ 2 := by
    obtain ⟨put, -⟩ | ⟨swap, -⟩ := same
    · simp [put]
    · simp [swap]
  rw [intake_served isOpen unicast free kind, serveUnicast_repeat recorded, repeatReply_eq same]
  rfl

/-! ## Routing (R96 to R98, R102) -/

/-- The first element of a vector with a property. -/
theorem find?_first {α : Type} {n : Nat} {v : Vector α n} {q : α → Bool} {i : Fin n} (here : q v[i] = true)
    (first : ∀ j, j < i → ¬ q v[j] = true) : v.toList.find? q = some v[i] := by
  refine List.find?_eq_some_iff_getElem.mpr ⟨here, i.val, by simp, by simp, fun j before => ?_⟩
  have rejected := first ⟨j, before.trans i.isLt⟩ before
  simpa using rejected

theorem find?_nowhere {α : Type} {n : Nat} {v : Vector α n} {q : α → Bool} (nowhere : ∀ i : Fin n, ¬ q v[i] = true) :
    v.toList.find? q = none := by
  refine List.find?_eq_none.mpr fun x stands => ?_
  obtain ⟨i, lt, rfl⟩ := List.getElem_of_mem stands
  simpa using nowhere ⟨i, by simpa using lt⟩

/-- A PUT that a routing entry takes, by the fields of the entry (R96). -/
def TakesPut (p : Parcel) (place : Nat) (r : Route) : Prop :=
  r.valid = true ∧ (r.source = 0 ∨ r.source = p.source) ∧ r.idset.getLsbD place = true ∧
    r.classes.getLsbD p.cls.toNat = true

theorem takesPut_iff {r : Route} {hit : IdHit} : TakesPut p hit.bit r ↔ r.matches hit p = true := by
  simp only [TakesPut, Route.matches, Bool.and_eq_true, Bool.or_eq_true, decide_eq_true_eq, and_assoc]

/-- The action and the inbox that the tables give a PUT: of the first entry that takes it, else of the default route
(R96, R97). -/
def RoutedTo (p : Parcel) (place : Nat) (s : State) (action : RouteAction) (n : Fin 4) : Prop :=
  (∃ i : Fin 16, TakesPut p place s.cfg.routes[i] ∧ (∀ j, j < i → ¬ TakesPut p place s.cfg.routes[j]) ∧
    s.cfg.routes[i].action = action ∧ s.cfg.routes[i].inbox = n) ∨
  ((∀ i : Fin 16, ¬ TakesPut p place s.cfg.routes[i]) ∧ s.cfg.routecfg.action = action ∧ s.cfg.routecfg.inbox = n)

theorem route_of_routedTo {hit : IdHit} {action : RouteAction} {n : Fin 4} (routed : RoutedTo p hit.bit s action n) :
    s.route hit p = (action, n) := by
  simp only [RoutedTo, takesPut_iff] at routed
  obtain ⟨i, here, first, rfl, rfl⟩ | ⟨nowhere, rfl, rfl⟩ := routed
  · rw [State.route, find?_first here first]
  · rw [State.route, find?_nowhere nowhere]

section
variable {hit : IdHit} {n : Fin 4}

theorem servePut_full (route : s.route hit p = (.deliver, n)) (full : s.cfg.quota[n].toNat ≤ s.intake.inboxes[n].length) :
    servePut hit p s = (.defer Config.reasonFull,
      count .inboxDrops (raise (if hit = .broadcast then .inboxDropped else .inboxDeferred) s)) := by
  have isFull : s.inboxFull n = true := decide_eq_true full
  rw [servePut, route]
  exact if_pos isFull

theorem servePut_delivers (route : s.route hit p = (.deliver, n))
    (room : ¬ s.cfg.quota[n].toNat ≤ s.intake.inboxes[n].length) : servePut hit p s = (.ack [], deliver n hit p s) := by
  have notFull : ¬ s.inboxFull n = true := fun full => room (of_decide_eq_true full)
  rw [servePut, route]
  exact if_neg notFull

theorem servePut_discards (route : s.route hit p = (.discard, n)) : servePut hit p s = (.ack [], s) := by
  rw [servePut, route]

theorem servePut_refuses (route : s.route hit p = (.refuse, n)) :
    servePut hit p s = (.nak Config.reasonRefused, s) := by
  rw [servePut, route]

end

/-! ## PUT through Intake -/

/-- An ACK to a PUT sets the record of its source, with value 0 (R92, R94). -/
theorem finishCall_acked_put {v : Served} (acked : v.acked = true) (once : v.isRepeat = false)
    (put : p.kind = Config.kindPut) : finishCall p v t = (v.reply, remembered p .put 0 (renewed p t)) := by
  rw [finishCall, renewLease_acked acked]
  cases enabled : (renewed p t).cfg.ident.repeatEn
  · simp [updateRecord, remembered, enabled]
  · simp only [updateRecord, remembered, enabled, once, if_pos (And.intro acked put)]
    simp only [acked, Bool.or_true, if_true, Bool.not_true, Bool.or_self, Bool.false_eq_true, if_false]
    split <;> rfl

section
variable (isOpen : intakeOpen s) (put : p.kind = Config.kindPut)
include isOpen put

/-- A broadcast PUT meets step 8 alone, and is never answered (R88). -/
theorem intake_put_broadcast (broadcast : p.dest = 0) :
    intake p s = (none, (servePut (s.cfg.ident.hit p.dest) p s).2) := by
  rw [intake_of_open isOpen (by rw [put]; decide), intakeFromClaim, if_pos (hit_broadcast broadcast)]

theorem intake_put_unicast (unicast : p.dest ≠ 0) (free : s.sess.holder = none ∨ s.sess.holder = some p.source)
    (fresh : s.repeatRecord p = none) : intake p s = finishCall p
      { reply := some (servePut (s.cfg.ident.hit p.dest) p s).1, reached7 := true, isRepeat := false, old := 0 }
      (servePut (s.cfg.ident.hit p.dest) p s).2 := by
  rw [intake_served isOpen unicast free (by rw [put]; decide), serveUnicast, fresh]
  exact if_pos put

variable (served : p.dest = 0 ∨ ((s.sess.holder = none ∨ s.sess.holder = some p.source) ∧ s.repeatRecord p = none))
include served

theorem intake_put_acked (outcome : servePut (s.cfg.ident.hit p.dest) p s = (.ack [], t)) : intake p s =
    (if p.dest = 0 then none else some (.ack []),
      if p.dest = 0 then t else remembered p .put 0 (renewed p t)) := by
  by_cases broadcast : p.dest = 0
  · rw [intake_put_broadcast isOpen put broadcast, outcome, if_pos broadcast, if_pos broadcast]
  · obtain ⟨free, fresh⟩ := served.resolve_left broadcast
    rw [intake_put_unicast isOpen put broadcast free fresh, outcome, if_neg broadcast, if_neg broadcast]
    exact finishCall_acked_put rfl rfl put

/-- A PUT that step 8 answers with another kind than ACK is turned away. -/
theorem intake_put_turned {r : Reply} (outcome : servePut (s.cfg.ident.hit p.dest) p s = (r, t))
    (turned : r.kind ≠ Config.kindAck) : intake p s =
    (if p.dest = 0 then none else some r, if p.dest = 0 then t else forgotten p t) := by
  by_cases broadcast : p.dest = 0
  · rw [intake_put_broadcast isOpen put broadcast, outcome, if_pos broadcast, if_pos broadcast]
  · obtain ⟨free, fresh⟩ := served.resolve_left broadcast
    rw [intake_put_unicast isOpen put broadcast free fresh, outcome, if_neg broadcast, if_neg broadcast]
    exact finishCall_turned_late (by simpa [Served.acked] using turned) rfl rfl

end

/-- Settles O50: the route that the tables give a PUT, and for each action what the steps after it leave. -/
theorem putsRouted : Obligations.PutsRouted := by
  intro p s isOpen put served action n hit place fits routes answer acked turned full record
  have routed : RoutedTo p (s.cfg.ident.hit p.dest).bit s action n := by
    rw [hit_bit]
    exact routes
  have route := route_of_routedTo routed
  have broadcast : s.cfg.ident.hit p.dest = .broadcast ↔ p.dest = 0 := hit_broadcast_iff
  refine ⟨?_, ?_, ?_, ?_⟩
  · rintro rfl room
    have delivered := servePut_delivers route room
    simp only [deliver, broadcast] at delivered
    exact intake_put_acked isOpen put served delivered
  · rintro rfl full
    have deferred := servePut_full route full
    simp only [broadcast] at deferred
    exact intake_put_turned isOpen put served deferred (by decide)
  · rintro rfl
    exact intake_put_acked isOpen put served (servePut_discards route)
  · rintro rfl
    exact intake_put_turned isOpen put served (servePut_refuses route) (by decide)

end Sys2Proof.Calling
end

section
/-! The host side of the Notice Board: a write of BOARDn (R107), and PUBLISH, PUBLISH_FORCE, WITHDRAW and ABSORB over a
range of entries (R113 to R117). -/

namespace Sys2Proof.NoticeBoard

open Sys2Proof.Machine Sys2Proof.Safety

variable {s : State}

/-! ## The host view (R107) -/

theorem readReg_board (n : Fin 64) : s.readReg (.board n) = s.board[n].view := rfl

@[simp] theorem view_stage (e : BoardEntry) (w : Word) : (e.stage w).view = w := rfl

theorem view_of_unstaged {e : BoardEntry} (unstaged : e.isStaged = false) : e.view = e.committed := by
  rw [BoardEntry.view, unstaged, if_neg Bool.false_ne_true]

@[simp] theorem afterHost_board : (afterHost s).board = s.board := by simp [afterHost]

/-- Settles O17: the write stages the word, and neither the end of the event nor that of its edge touches the board. -/
theorem boardWriteStages : Obligations.BoardWriteStages := by
  intro n w now s high is
  refine ⟨afterHost (writeBoard n w s), by rw [exec_boardWrite now high, ← is], ?_, rfl, ?_, rfl⟩
  · rw [readReg_board, afterHost_board, writeBoard]
    simp
  · rw [afterHost_board]
    rfl

/-! ## Ranges (R113) -/

section
variable {arg : BitVec 24}

theorem argRange_of_outside (outside : (arg.extractLsb' 8 8).toNat = 0 ∨
    64 < (arg.extractLsb' 0 8).toNat + (arg.extractLsb' 8 8).toNat) : argRange arg = none := by
  rw [argRange_spec, if_pos outside]

theorem argRange_of_inside (nonempty : (arg.extractLsb' 8 8).toNat ≠ 0)
    (fits : (arg.extractLsb' 0 8).toNat + (arg.extractLsb' 8 8).toNat ≤ 64) :
    argRange arg = some ((arg.extractLsb' 0 8).toNat, (arg.extractLsb' 8 8).toNat) := by
  rw [argRange_spec, if_neg (by omega)]

end

/-- The number of entries of a range with a property, as the statements say it. -/
theorem countRange_eq (first n : Nat) (p : BoardEntry → Bool) (b : Board) : countRange first n p b =
    ((List.finRange 64).filter fun i => decide (first ≤ i.val ∧ i.val < first + n) && p b[i]).length := by
  simp [countRange, inRange, List.countP_eq_length_filter]

theorem countRange_le (first n : Nat) (p : BoardEntry → Bool) (b : Board) : countRange first n p b ≤ 64 := by
  simpa [countRange] using List.countP_le_length (l := List.finRange 64)
    (p := fun i => inRange first n i && p b[i])

/-- Two numbers one above the other, as PUBLISH returns them (R114). -/
theorem ofNat_append_ofNat {high low : Nat} (h : low < 256) :
    BitVec.ofNat 8 high ++ BitVec.ofNat 8 low = BitVec.ofNat 16 (low + 256 * high) := by
  apply BitVec.eq_of_toNat_eq
  rw [Calling.toNat_bytes, BitVec.toNat_ofNat, BitVec.toNat_ofNat, BitVec.toNat_ofNat]
  omega

/-! ## The four commands by their argument -/

section
variable {arg : BitVec 24}

section
variable (outside : argRange arg = none)
include outside

theorem finish_publish_outside : finishCommand 0x10 (cmdPublish arg s) = commandRefused 0x10 .badArgument 0 s := by
  rw [cmdPublish, outside]
  rfl
theorem finish_publishForce_outside :
    finishCommand 0x11 (cmdPublishForce arg s) = commandRefused 0x11 .badArgument 0 s := by
  rw [cmdPublishForce, outside]
  rfl
theorem finish_withdraw_outside : finishCommand 0x12 (cmdWithdraw arg s) = commandRefused 0x12 .badArgument 0 s := by
  rw [cmdWithdraw, outside]
  rfl
theorem finish_absorb_outside : finishCommand 0x13 (cmdAbsorb arg s) = commandRefused 0x13 .badArgument 0 s := by
  rw [cmdAbsorb, outside]
  rfl

end

variable {first n : Nat} (range : argRange arg = some (first, n))
include range

/-- PUBLISH returns the skipped entries above the published ones (R114). -/
theorem finish_publish : finishCommand 0x10 (cmdPublish arg s) = commandOk 0x10
    (BitVec.ofNat 16 (countRange first n BoardEntry.publishable s.board +
      256 * countRange first n BoardEntry.conflict s.board))
    (raiseIf (decide (countRange first n BoardEntry.conflict s.board ≠ 0)) .publishConflict
      { s with board := mapRange first n BoardEntry.publish s.board }) := by
  have published := countRange_le first n BoardEntry.publishable s.board
  rw [cmdPublish, range, ← ofNat_append_ofNat (by omega)]
  rfl
theorem finish_publishForce : finishCommand 0x11 (cmdPublishForce arg s) = commandOk 0x11
    (BitVec.ofNat 16 (countRange first n (·.isStaged) s.board))
    { s with board := mapRange first n BoardEntry.force s.board } := by
  rw [cmdPublishForce, range]
  rfl
theorem finish_withdraw : finishCommand 0x12 (cmdWithdraw arg s) = commandOk 0x12
    (BitVec.ofNat 16 (countRange first n (·.isStaged) s.board))
    { s with board := mapRange first n BoardEntry.withdraw s.board } := by
  rw [cmdWithdraw, range]
  rfl
theorem finish_absorb : finishCommand 0x13 (cmdAbsorb arg s) =
    commandOk 0x13 0 { s with board := mapRange first n BoardEntry.absorb s.board } := by
  rw [cmdAbsorb, range]
  rfl

end

/-! ## Entries of a range -/

section
variable (first n : Nat) (b : Board) (i : Fin 64)

/-- The entry that a range command leaves. -/
theorem mapRange_entry (f : BoardEntry → BoardEntry) :
    (mapRange first n f b)[i] = if decide (first ≤ i.val ∧ i.val < first + n) = true then f b[i] else b[i] := by
  simp

theorem publish_entry : (mapRange first n BoardEntry.publish b)[i] =
    if decide (first ≤ i.val ∧ i.val < first + n) = true ∧ b[i].isStaged = true ∧ b[i].modified = false then
      { b[i] with committed := b[i].staged, isStaged := false } else b[i] := by
  simp [BoardEntry.publish, BoardEntry.publishable, ← ite_and]

theorem force_entry : (mapRange first n BoardEntry.force b)[i] =
    if decide (first ≤ i.val ∧ i.val < first + n) = true ∧ b[i].isStaged = true then
      { b[i] with committed := b[i].staged, isStaged := false, modified := false } else b[i] := by
  simp [BoardEntry.force, ← ite_and]

end

/-- What the host reads of an entry of the range that a command has left unstaged (R107). -/
theorem readReg_mapRange {first n : Nat} {f : BoardEntry → BoardEntry} {i : Fin 64}
    (inside : decide (first ≤ i.val ∧ i.val < first + n) = true)
    (unstages : (f s.board[i]).isStaged = false) (keeps : (f s.board[i]).committed = s.board[i].committed) :
    { s with board := mapRange first n f s.board }.readReg (.board i) = s.board[i].committed := by
  rw [readReg_board, mapRange_entry, if_pos inside, view_of_unstaged unstages, keeps]

/-- Settles O27: the two commands over their range, and what they make of each entry. -/
theorem publishCommitsStaged : Obligations.PublishCommitsStaged := by
  intro arg now s high is
  rw [exec_publish now high, exec_publishForce now high, ← is]
  refine ⟨fun outside => ?_, fun nonempty fits =>
    ⟨⟨_, ?_, fun i => publish_entry ..⟩, ⟨_, ?_, fun i => force_entry ..⟩⟩⟩
  · have outside := argRange_of_outside outside
    rw [finish_publish_outside outside, finish_publishForce_outside outside]
    exact ⟨rfl, rfl⟩
  · rw [finish_publish (argRange_of_inside nonempty fits), countRange_eq, countRange_eq]
    rfl
  · rw [finish_publishForce (argRange_of_inside nonempty fits), countRange_eq]

/-- Settles O28: the two commands over their range; both leave every entry of it unstaged, with its committed value. -/
theorem withdrawAndAbsorbClearFlags : Obligations.WithdrawAndAbsorbClearFlags := by
  intro arg now s high is
  rw [exec_withdraw now high, exec_absorb now high, ← is]
  refine ⟨fun outside => ?_, fun nonempty fits =>
    ⟨⟨mapRange _ _ BoardEntry.withdraw s.board, ?_, fun i => mapRange_entry .., fun i inside =>
        readReg_mapRange inside rfl rfl⟩,
      ⟨mapRange _ _ BoardEntry.absorb s.board, ?_, fun i => mapRange_entry .., fun i inside =>
        readReg_mapRange inside rfl rfl⟩⟩⟩
  · have outside := argRange_of_outside outside
    rw [finish_withdraw_outside outside, finish_absorb_outside outside]
    exact ⟨rfl, rfl⟩
  · rw [finish_withdraw (argRange_of_inside nonempty fits), countRange_eq]
  · rw [finish_absorb (argRange_of_inside nonempty fits)]

end Sys2Proof.NoticeBoard
end

section
/-! The controller under other staged values and flags: no event from the bus and no expiry reads or changes one (R107,
R110, R111). -/

namespace Sys2Proof.NoticeBoard

open Sys2Proof.Machine Sys2Proof.Safety

/-- The board `b` as the bus sees it, with its remote-modified flags, under the staged values and flags of `g`. -/
@[irreducible] def underStaged (g b : Board) : Board :=
  Vector.ofFn fun i => { b[i] with staged := g[i].staged, isStaged := g[i].isStaged }

@[simp] theorem underStaged_getElem (g b : Board) (i : Nat) (h : i < 64) : (underStaged g b)[i] =
    { b[i] with staged := g[i].staged, isStaged := g[i].isStaged } := by
  simp [underStaged]

/-- The state with the staged values and staged flags of the board `g` in the place of its own (R107). -/
def restage (g : Board) (s : State) : State := { s with board := underStaged g s.board }

variable (g : Board) (s : State)

@[simp] theorem restage_board : (restage g s).board = underStaged g s.board := rfl

/-- Staged values and flags that have been replaced once are the new ones. -/
theorem restage_restage_board : restage (restage g s).board s = restage g s := by
  have board : underStaged (underStaged g s.board) s.board = underStaged g s.board := by
    ext i hi : 1
    simp
  simp only [restage, board]

/-- Two states differ in staged values and flags alone where the one is the other under its own. -/
theorem eq_restage_iff {a b : State} : a = restage a.board b ↔ a = { b with board := a.board } ∧
    ∀ i : Fin 64, a.board[i] = { b.board[i] with staged := a.board[i].staged, isStaged := a.board[i].isStaged } := by
  have entries : a.board = underStaged a.board b.board ↔ ∀ i : Fin 64,
      a.board[i] = { b.board[i] with staged := a.board[i].staged, isStaged := a.board[i].isStaged } := by
    simp [Vector.ext_iff, Fin.forall_iff]
  rw [← entries]
  constructor
  · intro h
    have board : a.board = underStaged a.board b.board := congrArg State.board h
    refine ⟨?_, board⟩
    conv_rhs => rw [board]
    exact h
  · rintro ⟨rest, board⟩
    rw [board] at rest
    exact rest

/-! ## What a state shows but for its staged values -/

@[simp] theorem restage_frame :
    (restage g s).pending = s.pending ∧ (restage g s).inReset = s.inReset ∧ (restage g s).cfg = s.cfg ∧
    (restage g s).sctl = s.sctl ∧ (restage g s).host = s.host ∧ (restage g s).link = s.link ∧
    (restage g s).calls = s.calls ∧ (restage g s).sess = s.sess ∧ (restage g s).intake = s.intake ∧
    (restage g s).hold = s.hold ∧ (restage g s).doze = s.doze ∧ (restage g s).events = s.events :=
  ⟨rfl, rfl, rfl, rfl, rfl, rfl, rfl, rfl, rfl, rfl, rfl, rfl⟩

/-- A change of any block but the board is the same change under other staged values. -/
@[simp] theorem mk_underStaged (pending inReset cfg sctl host link calls sess intake board hold doze events) :
    State.mk pending inReset cfg sctl host link calls sess intake (underStaged g board) hold doze events =
      restage g (State.mk pending inReset cfg sctl host link calls sess intake board hold doze events) := rfl

/-- What the operations read of a state: none of it is a staged value. -/
@[simp] theorem restage_reads :
    (restage g s).div = s.div ∧ (restage g s).bt = s.bt ∧ (restage g s).quantum = s.quantum ∧
    (restage g s).wantedClasses = s.wantedClasses ∧ (restage g s).interrupt = s.interrupt ∧
    (restage g s).stuckTimer = s.stuckTimer ∧ (restage g s).fellNow = s.fellNow ∧
    (restage g s).held = s.held ∧ (restage g s).holdPending = s.holdPending ∧
    (restage g s).holdCandidate = s.holdCandidate ∧ (restage g s).holdParcel = s.holdParcel ∧
    (restage g s).mirrorFor = s.mirrorFor ∧ (restage g s).mirrorOf = s.mirrorOf ∧
    (restage g s).positionFromBottom = s.positionFromBottom ∧ (restage g s).idleConditions = s.idleConditions ∧
    (restage g s).matchingFilter = s.matchingFilter ∧ (restage g s).tagOf = s.tagOf ∧
    (restage g s).callCandidate = s.callCandidate ∧ (restage g s).callParcel = s.callParcel ∧
    (restage g s).startCheck = s.startCheck ∧ (restage g s).wonParcel = s.wonParcel ∧
    (restage g s).route = s.route ∧ (restage g s).inboxFull = s.inboxFull ∧
    (restage g s).repeatRecord = s.repeatRecord ∧ (restage g s).heldByOther = s.heldByOther ∧
    (restage g s).formOnly = s.formOnly ∧ (restage g s).answerable = s.answerable ∧
    (restage g s).stuckCanExpire = s.stuckCanExpire := by
  and_intros <;> rfl

/-! ## Updates of one block, and operations without a choice -/

@[simp] theorem updates_restage :
    (∀ e, raise e (restage g s) = restage g (raise e s)) ∧
    updateInt (restage g s) = restage g (updateInt s) ∧
    clearEdge (restage g s) = restage g (clearEdge s) ∧
    markEdge (restage g s) = restage g (markEdge s) ∧
    (∀ a, setAct a (restage g s) = restage g (setAct a s)) ∧
    (∀ b, toIdle b (restage g s) = restage g (toIdle b s)) ∧
    (∀ l, setLine l (restage g s) = restage g (setLine l s)) ∧
    lineRises (restage g s) = restage g (lineRises s) ∧
    enterSettling (restage g s) = restage g (enterSettling s) ∧
    nodeConflict (restage g s) = restage g (nodeConflict s) :=
  ⟨fun _ => rfl, rfl, rfl, rfl, fun _ => rfl, fun _ => rfl, fun _ => rfl, rfl, rfl, rfl⟩

@[simp] theorem hold_and_doze_updates_restage :
    (∀ c t, setHoldTimer c t (restage g s) = restage g (setHoldTimer c t s)) ∧
    refreshExpires (restage g s) = restage g (refreshExpires s) ∧
    (∀ d, setDoze d (restage g s) = restage g (setDoze d s)) ∧
    (∀ c, wakeUp c (restage g s) = restage g (wakeUp c s)) :=
  ⟨fun _ _ => rfl, rfl, fun _ => rfl, fun _ => rfl⟩
@[simp] theorem wakeByLine_restage (c : WakeCause) : wakeByLine c (restage g s) = restage g (wakeByLine c s) := by
  simp [wakeByLine]
@[simp] theorem wakeByFilter_restage (i : Fin 4) :
    wakeByFilter i (restage g s) = restage g (wakeByFilter i s) := by
  simp [wakeByFilter]
@[simp] theorem updateAsserted_restage : updateAsserted (restage g s) = restage g (updateAsserted s) := by
  simp only [updateAsserted, restage_reads, restage_frame, restage_board, mk_underStaged]
@[simp] theorem updateIdle_restage : updateIdle (restage g s) = restage g (updateIdle s) := by
  simp only [updateIdle, restage_reads, restage_frame, restage_board, mk_underStaged]

@[simp] theorem session_updates_restage :
    (∀ st, setStack st (restage g s) = restage g (setStack st s)) ∧
    popSession (restage g s) = restage g (popSession s) ∧
    (∀ k, mirrorExpires k (restage g s) = restage g (mirrorExpires k s)) ∧
    restartLease (restage g s) = restage g (restartLease s) ∧
    (∀ n, takeClaim n (restage g s) = restage g (takeClaim n s)) ∧
    (∀ c, endClaim c (restage g s) = restage g (endClaim c s)) :=
  ⟨fun _ => rfl, rfl, fun _ => rfl, rfl, fun _ => rfl, fun _ => rfl⟩

@[simp] theorem call_updates_restage :
    (∀ n f, updSlot n f (restage g s) = restage g (updSlot n f s)) ∧
    (∀ n o, closeSlot n o (restage g s) = restage g (closeSlot n o s)) ∧
    (∀ n x o, appendRecord n x o (restage g s) = restage g (appendRecord n x o s)) ∧
    (∀ n x o a, closePointer n x o a (restage g s) = restage g (closePointer n x o a s)) ∧
    endCurrent (restage g s) = restage g (endCurrent s) ∧
    (∀ c, startBackoff c (restage g s) = restage g (startBackoff c s)) :=
  ⟨fun _ _ => rfl, fun _ _ => rfl, fun _ _ _ => rfl, fun _ _ _ _ => rfl, rfl, fun _ => rfl⟩

/-! ## Events, counters, faults and the pin -/

@[simp] theorem raiseIf_restage (b : Bool) (e : Event) : raiseIf b e (restage g s) = restage g (raiseIf b e s) := by
  cases b <;> rfl
@[simp] theorem count_restage (c : Counter) : count c (restage g s) = restage g (count c s) := by
  simp [count]
@[simp] theorem countFault_restage : countFault (restage g s) = restage g (countFault s) := by
  simp [countFault]
@[simp] theorem sentOk_restage : sentOk (restage g s) = restage g (sentOk s) := by
  simp [sentOk]
@[simp] theorem countReception_restage (r : RxResult) :
    countReception r (restage g s) = restage g (countReception r s) := by
  cases r <;> simp [countReception]

@[simp] theorem dropAnswer_restage : dropAnswer (restage g s) = restage g (dropAnswer s) := by
  unfold dropAnswer
  simp only [restage_frame]
  split
  · split <;> rfl
  · rfl
@[simp] theorem rowHigh_restage : rowHigh (restage g s) = restage g (rowHigh s) := by
  simp [rowHigh, apply_ite (restage g)]
@[simp] theorem startLow_restage (a : Nat) : startLow a (restage g s) = restage g (startLow a s) := by
  simp [startLow, apply_ite (restage g)]
@[simp] theorem leadBegins_restage : leadBegins (restage g s) = restage g (leadBegins s) := by
  simp [leadBegins]
@[simp] theorem markSeen_restage : markSeen (restage g s) = restage g (markSeen s) := by
  simp [markSeen]
@[simp] theorem lineAfter_restage (r : RxResult) : lineAfter r (restage g s) = restage g (lineAfter r s) := by
  cases r <;> simp [lineAfter]

/-! ## The Hold Unit, the Doze Unit and the Session Unit -/

@[simp] theorem applyHold_restage (p : Parcel) : applyHold p (restage g s) = restage g (applyHold p s) := by
  simp [applyHold, apply_ite (restage g)]
@[simp] theorem evalInbox_restage (n : Fin 4) : evalInbox n (restage g s) = restage g (evalInbox n s) := by
  simp [evalInbox, apply_ite (restage g)]
@[simp] theorem holdSent_restage (k : HoldKind) (p : Parcel) :
    holdSent k p (restage g s) = restage g (holdSent k p s) := by
  cases k <;> simp [holdSent]
@[simp] theorem enterDoze_restage : enterDoze (restage g s) = restage g (enterDoze s) := by
  simp [enterDoze, apply_ite (restage g)]
@[simp] theorem dozeRouse_restage : dozeRouse (restage g s) = restage g (dozeRouse s) := by
  unfold dozeRouse
  simp only [restage_frame, wakeByLine_restage]
  split
  · cases s.doze.state <;> rfl
  · rfl
@[simp] theorem pushSession_restage (n i : BitVec 5) (l : BitVec 8) :
    pushSession n i l (restage g s) = restage g (pushSession n i l s) := by
  simp [pushSession]
@[simp] theorem restartMirrors_restage (p : Parcel) :
    restartMirrors p (restage g s) = restage g (restartMirrors p s) := by
  simp [restartMirrors]

/-! ## The Call Engine -/

@[simp] theorem closeTag_restage (x : Slot) : closeTag x (restage g s) = restage g (closeTag x s) := by
  unfold closeTag advanceTag
  split
  · split <;> rfl
  · rfl
@[simp] theorem closeSession_restage (n : SlotId) (x : Slot) (o : CallOutcome) (i : BitVec 5) :
    closeSession n x o i (restage g s) = restage g (closeSession n x o i s) := by
  have gate (u : State) : (if (restage g u).sess.gate = some n then
      { restage g u with sess := { (restage g u).sess with gate := none } } else restage g u) =
      restage g (if u.sess.gate = some n then { u with sess := { u.sess with gate := none } } else u) := by
    simp [apply_ite (restage g)]
  simp only [closeSession, pushSession_restage, session_updates_restage, ← apply_ite (restage g), gate]
@[simp] theorem closeCall_restage (n : SlotId) (o : CallOutcome) (i : BitVec 5) :
    closeCall n o i (restage g s) = restage g (closeCall n o i s) := by
  simp [closeCall]
@[simp] theorem closeChain_restage (fuel : Nat) (n : SlotId) (o : CallOutcome) (i : BitVec 5) :
    closeChain fuel n o i (restage g s) = restage g (closeChain fuel n o i s) := by
  induction fuel generalizing n o i s with
  | zero => rfl
  | succ fuel ih =>
    simp only [closeChain, closeCall_restage, restage_frame, ih]
    split
    · cases behind n s.calls.queues[s.calls.slots[n].cls] <;> rfl
    · rfl
@[simp] theorem decideOutcome_restage (n : SlotId) (o : CallOutcome) (i : BitVec 5) :
    decideOutcome n o i (restage g s) = restage g (decideOutcome n o i s) := closeChain_restage ..

@[simp] theorem callLost_restage : callLost (restage g s) = restage g (callLost s) := by
  unfold callLost
  cases current : s.calls.current <;> simp [current, apply_ite (restage g)]
@[simp] theorem callWon_restage : callWon (restage g s) = restage g (callWon s) := by
  unfold callWon
  cases current : s.calls.current <;> simp [current]
@[simp] theorem callAbandoned_restage : callAbandoned (restage g s) = restage g (callAbandoned s) := by
  unfold callAbandoned
  cases current : s.calls.current <;> simp [current, apply_ite (restage g)]
@[simp] theorem callWithdrawn_restage : callWithdrawn (restage g s) = restage g (callWithdrawn s) := by
  unfold callWithdrawn
  cases current : s.calls.current <;> simp [current, apply_ite (restage g)]
@[simp] theorem attemptEnd_restage (p : Parcel) (r : ExchangeResult) :
    attemptEnd p r (restage g s) = restage g (attemptEnd p r s) := by
  unfold attemptEnd
  cases current : s.calls.current
  · simp [current]
  · cases r <;> simp [current, ← apply_ite (restage g)]

@[simp] theorem failStart_restage (n : SlotId) (o : CallOutcome) :
    failStart n o (restage g s) = restage g (failStart n o s) := by
  simp [failStart]
@[simp] theorem beginContention_restage (o : Owner) (p : Parcel) :
    beginContention o p (restage g s) = restage g (beginContention o p s) := by
  simp [beginContention]
@[simp] theorem startCall_restage (n : SlotId) : startCall n (restage g s) = restage g (startCall n s) := by
  simp [startCall]
@[simp] theorem selectLoop_restage (fuel : Nat) : selectLoop fuel (restage g s) = restage g (selectLoop fuel s) := by
  induction fuel generalizing s with
  | zero => rfl
  | succ fuel ih =>
    simp only [selectLoop, restage_reads, failStart_restage, beginContention_restage, startCall_restage, ih]
    cases s.holdCandidate with
    | some k => rfl
    | none =>
      cases s.callCandidate with
      | none => rfl
      | some n =>
        dsimp only
        cases s.startCheck n <;> rfl
@[simp] theorem select_restage : select (restage g s) = restage g (select s) := by
  simp [select, apply_ite (restage g)]
@[simp] theorem endEvent_restage : endEvent (restage g s) = restage g (endEvent s) := by
  simp [endEvent]

/-! ## Reports by the owner of the parcel (R29) -/

@[simp] theorem reportLost_restage (o : Owner) : reportLost o (restage g s) = restage g (reportLost o s) := by
  cases o <;> simp [reportLost]
@[simp] theorem reportAbandoned_restage (o : Owner) :
    reportAbandoned o (restage g s) = restage g (reportAbandoned o s) := by
  cases o <;> simp [reportAbandoned]
@[simp] theorem reportWithdrawn_restage (o : Owner) :
    reportWithdrawn o (restage g s) = restage g (reportWithdrawn o s) := by
  cases o <;> simp [reportWithdrawn]
@[simp] theorem reportBroken_restage (o : Owner) (p : Parcel) (b : BrokenBy) :
    reportBroken o p b (restage g s) = restage g (reportBroken o p b s) := by
  cases o <;> simp [reportBroken]
@[simp] theorem reportSent_restage (o : Owner) (p : Parcel) :
    reportSent o p (restage g s) = restage g (reportSent o p s) := by
  cases o <;> simp [reportSent]
@[simp] theorem abandon_restage : abandon (restage g s) = restage g (abandon s) := by
  simp only [abandon, restage_frame, reportAbandoned_restage, reportWithdrawn_restage, callWithdrawn_restage]
  split <;> rfl
@[simp] theorem endWindow_restage (p : Parcel) (r : RxResult) :
    endWindow p r (restage g s) = restage g (endWindow p r s) := by
  unfold endWindow
  cases accept p r <;> simp

/-! ## Intake (R88). The board serves and takes committed values (R110, R111). -/

@[simp] theorem serveFetch_restage (p : Parcel) : serveFetch p (restage g s) = serveFetch p s := by
  simp [serveFetch, countRange, fetchBytes]

/-- A SWAP replaces the committed value and sets the remote-modified flag, whatever is staged (R111). -/
theorem underStaged_set_swap (b : Board) (i : Nat) (h : i < Config.boardSize) (w : Word) :
    (underStaged g b).set i ((underStaged g b)[i].swap w) = underStaged g (b.set i (b[i].swap w)) := by
  ext j hj : 1
  simp only [Vector.getElem_set, underStaged_getElem]
  split
  · subst i
    rfl
  · rfl

@[simp] theorem serveSwap_restage (p : Parcel) :
    serveSwap p (restage g s) = Prod.map id (Prod.map id (restage g)) (serveSwap p s) := by
  unfold serveSwap
  split
  · simp only [restage_board, underStaged_set_swap]
    simp only [underStaged_getElem, restage_frame, mk_underStaged]
    split <;> rfl
  · rfl

@[simp] theorem deliver_restage (n : Fin 4) (h : IdHit) (p : Parcel) :
    deliver n h p (restage g s) = restage g (deliver n h p s) := by
  simp [deliver]
@[simp] theorem servePut_restage (h : IdHit) (p : Parcel) :
    servePut h p (restage g s) = Prod.map id (restage g) (servePut h p s) := by
  simp only [servePut, restage_reads]
  split
  · split <;> simp
  · rfl
  · rfl
@[simp] theorem setRepeat_restage (n : BitVec 5) (r : Option RepeatRecord) :
    setRepeat n r (restage g s) = restage g (setRepeat n r s) := by
  unfold setRepeat
  split <;> rfl
@[simp] theorem renewLease_restage (p : Parcel) (v : Served) :
    renewLease p v (restage g s) = restage g (renewLease p v s) := by
  simp [renewLease, apply_ite (restage g)]
@[simp] theorem updateRecord_restage (p : Parcel) (v : Served) :
    updateRecord p v (restage g s) = restage g (updateRecord p v s) := by
  simp [updateRecord, apply_ite (restage g)]
@[simp] theorem finishCall_restage (p : Parcel) (v : Served) :
    finishCall p v (restage g s) = Prod.map id (restage g) (finishCall p v s) := by
  simp [finishCall]
@[simp] theorem serveUnicast_restage (h : IdHit) (p : Parcel) :
    serveUnicast h p (restage g s) = Prod.map id (restage g) (serveUnicast h p s) := by
  unfold serveUnicast
  cases r : s.repeatRecord p <;> simp [r, apply_ite (Prod.map id (restage g))]
@[simp] theorem serveClaim_restage (p : Parcel) :
    serveClaim p (restage g s) = Prod.map id (restage g) (serveClaim p s) := by
  simp only [serveClaim, restage_frame]
  split
  · rfl
  · cases s.sess.holder with
    | none => rfl
    | some h => dsimp only; split <;> rfl
@[simp] theorem serveRelease_restage (p : Parcel) :
    serveRelease p (restage g s) = Prod.map id (restage g) (serveRelease p s) := by
  simp [serveRelease, apply_ite (Prod.map id (restage g))]
@[simp] theorem intakeFromClaim_restage (h : IdHit) (p : Parcel) :
    intakeFromClaim h p (restage g s) = Prod.map id (restage g) (intakeFromClaim h p s) := by
  simp [intakeFromClaim, apply_ite (Prod.map id (restage g))]
@[simp] theorem intakeRouse_restage (h : IdHit) (p : Parcel) :
    intakeRouse h p (restage g s) = Prod.map id (restage g) (intakeRouse h p s) := by
  simp [intakeRouse, apply_ite (Prod.map id (restage g))]
@[simp] theorem intakeDozing_restage (h : IdHit) (p : Parcel) :
    intakeDozing h p (restage g s) = Prod.map id (restage g) (intakeDozing h p s) := by
  simp only [intakeDozing, restage_reads, restage_frame, wakeByFilter_restage, intakeFromClaim_restage]
  split
  · rfl
  · split <;> rfl
@[simp] theorem intake_restage (p : Parcel) :
    intake p (restage g s) = Prod.map id (restage g) (intake p s) := by
  simp [intake, apply_ite (Prod.map id (restage g))]
@[simp] theorem dispose_restage (w : Bool) (r : RxResult) :
    dispose w r (restage g s) = Prod.map id (restage g) (dispose w r s) := by
  cases r <;> simp [dispose, apply_ite (Prod.map id (restage g))]

/-! ## Line events (R132, order 1) -/

@[simp] theorem receptionEnds_restage (w : Option Parcel) (r : RxResult) :
    receptionEnds w r (restage g s) = restage g (receptionEnds w r s) := by
  have attempt : StrandBus.endAttempt w r (countReception r (restage g s)) =
      restage g (StrandBus.endAttempt w r (countReception r s)) := by
    cases w <;> simp [StrandBus.endAttempt]
  have disposal := dispose_restage g (StrandBus.endAttempt w r (countReception r s)) w.isSome r
  rw [← attempt] at disposal
  rcases d : dispose w.isSome r (StrandBus.endAttempt w r (countReception r s)) with ⟨_ | a, u⟩
  · rw [d] at disposal
    rw [StrandBus.receptionEnds_unanswered d, StrandBus.receptionEnds_unanswered disposal]
    simp
  · rw [d] at disposal
    rw [StrandBus.receptionEnds_answered d, StrandBus.receptionEnds_answered disposal]
    simp

theorem onLeadMark_restage : onLeadMark (restage g s) = restage g (onLeadMark s) := by
  simp only [onLeadMark, restage_frame]
  split
  · split <;> simp
  all_goals simp

theorem onParcel_restage (items : List LineItem) : onParcel items (restage g s) = restage g (onParcel items s) := by
  simp only [onParcel, restage_frame, restage_reads, receptionEnds_restage]
  split
  · split <;> rfl
  · rfl

theorem onContentionWon_restage : onContentionWon (restage g s) = restage g (onContentionWon s) := by
  simp only [onContentionWon, restage_frame]
  split
  · split <;> simp
  · rfl

theorem onArbitrationLoss_restage : onArbitrationLoss (restage g s) = restage g (onArbitrationLoss s) := by
  simp only [onArbitrationLoss, restage_frame]
  split <;> simp

theorem onBitClash_restage (b : Nat) : onBitClash b (restage g s) = restage g (onBitClash b s) := by
  simp only [onBitClash, restage_frame]
  split
  · split
    · simp [← apply_ite (restage g)]
    · rfl
  · split <;> simp
  · rfl

theorem onMarkFault_restage : onMarkFault (restage g s) = restage g (onMarkFault s) := by
  simp only [onMarkFault, restage_frame]
  split <;> simp

theorem onSentCleanly_restage : onSentCleanly (restage g s) = restage g (onSentCleanly s) := by
  simp only [onSentCleanly, restage_frame]
  split
  · split <;> simp
  · rfl

theorem onAnswerSent_restage : onAnswerSent (restage g s) = restage g (onAnswerSent s) := by
  simp only [onAnswerSent, restage_frame]
  split <;> simp

theorem onAnswerStart_restage : onAnswerStart (restage g s) = restage g (onAnswerStart s) := by
  simp only [onAnswerStart, restage_frame]
  split
  · split <;> simp
  · rfl

theorem onWindowExpiry_restage : onWindowExpiry (restage g s) = restage g (onWindowExpiry s) := by
  simp only [onWindowExpiry, restage_frame]
  split
  · split <;> simp
  · rfl

theorem onQuietGapEnd_restage : onQuietGapEnd (restage g s) = restage g (onQuietGapEnd s) := by
  simp only [onQuietGapEnd, restage_frame]
  split <;> simp

theorem onLineHigh_restage : onLineHigh (restage g s) = restage g (onLineHigh s) := by
  simp only [onLineHigh, restage_frame]
  split <;> simp

theorem onStrayPulse_restage (b : Bool) : onStrayPulse b (restage g s) = restage g (onStrayPulse b s) := by
  simp only [onStrayPulse, restage_frame]
  split
  · simp
  · split <;> simp
  all_goals simp

/-- Every line event does the same under other staged values. -/
theorem lineEffect_restage {c : Instr} {f : State → State} (h : Linkage.lineEffect c = some f) :
    f (restage g s) = restage g (f s) := by
  cases c <;> cases h
  case leadMark => exact onLeadMark_restage g s
  case parcelReceived items => exact onParcel_restage g s items
  case contentionWon => exact onContentionWon_restage g s
  case arbitrationLoss => exact onArbitrationLoss_restage g s
  case bitClash b => exact onBitClash_restage g s b
  case markFault => exact onMarkFault_restage g s
  case sentCleanly => exact onSentCleanly_restage g s
  case answerSent => exact onAnswerSent_restage g s
  case answerStart => exact onAnswerStart_restage g s
  case answerWindowExpiry => exact onWindowExpiry_restage g s
  case quietGapEnd => exact onQuietGapEnd_restage g s
  case lineHigh => exact onLineHigh_restage g s
  case strayPulse b => exact onStrayPulse_restage g s b

/-! ## Expiries (R132, orders 2 to 8) -/

/-- Every expiry does the same under other staged values. -/
@[simp] theorem effect_restage (e : Expiry) : e.effect (restage g s) = restage g (e.effect s) := by
  cases e with
  | hold c => simp [Expiry.effect, onHoldExpiry, apply_ite (restage g)]
  | backoff c => simp [Expiry.effect, onBackoffExpiry]
  | refresh => simp [Expiry.effect, onRefreshExpiry, apply_ite (restage g)]
  | lease => simp [Expiry.effect, onLeaseExpiry, apply_ite (restage g)]
  | mirror k => simp [Expiry.effect, onMirrorExpiry, apply_ite (restage g)]
  | stuck => simp [Expiry.effect, onStuckExpiry, apply_ite (restage g)]
  | dozeIdle => simp [Expiry.effect, onDozeIdleExpiry, apply_ite (restage g)]

/-! ## Events on their HCLK edge (R132) -/

theorem timerEvent_restage {f : State → State} (blind : ∀ u, f (restage g u) = restage g (f u)) :
    timerEvent f (restage g s) = restage g (timerEvent f s) := by
  simp [timerEvent, unlessReset, blind, apply_ite (restage g)]

@[simp] theorem expireDue_restage : expireDue (restage g s) = restage g (expireDue s) := by
  have one (t : State) (e : Expiry) : expire (restage g t) e = restage g (expire t e) := by
    have due : e.due (restage g t) = e.due t := by cases e <;> rfl
    simp only [expire, due, timerEvent_restage g t (effect_restage g · e), apply_ite (restage g)]
  have all (l : List Expiry) : ∀ t : State, l.foldl expire (restage g t) = restage g (l.foldl expire t) := by
    induction l with
    | nil => exact fun _ => rfl
    | cons e l ih => intro t; rw [List.foldl_cons, one, ih, List.foldl_cons]
  rw [expireDue, dropAnswer_restage, all, expireDue]

theorem lineEvent_restage {f : State → State} (blind : ∀ u, f (restage g u) = restage g (f u)) :
    lineEvent f (restage g s) = restage g (lineEvent f s) := by
  have edge : openEdge (restage g s) = restage g (openEdge s) := by
    simp [openEdge, ← apply_ite (restage g)]
  simp [lineEvent, unlessReset, edge, blind, apply_ite (restage g)]

theorem not_isBusEvent_of_host {c : Instr} {f : State → State} (act : Linkage.HostAct c f) :
    isBusEvent c = false := by
  cases act with
  | command row => cases c <;> cases row <;> rfl
  | @register _ r _ row => cases r <;> cases row <;> rfl
  | _ => rfl

/-- An event from the bus or an expiry does the same under other staged values and flags, and leaves those. -/
theorem exec_restage {c : Instr} (bus : isBusEvent c = true) {t : State} (runs : exec c s = .next t) :
    exec c (restage g s) = .next (restage g t) := by
  have effect {f : State → State} (row : ∀ u, exec c u = .next (f u)) (blind : f (restage g s) = restage g (f s)) :
      exec c (restage g s) = .next (restage g t) := by
    obtain rfl : f s = t := Host.Outcome.next.inj ((row s).symm.trans runs)
    rw [row, blind]
  cases Linkage.rowKind c with
  | line row => exact effect (fun _ => Linkage.exec_of_line row) (lineEvent_restage g s (lineEffect_restage g · row))
  | expiry e => exact effect (exec_expiry · e) (timerEvent_restage g s (effect_restage g · e))
  | dozeEntered => exact effect (fun _ => rfl) (timerEvent_restage g s (enterDoze_restage g))
  | host act => exact absurd bus (by simp [not_isBusEvent_of_host act])
  | reset => cases bus
  | powerOn => cases bus

/-- Settles O59: a state that differs from another in staged values and flags is the other under its own, and so are the
states to which both go. -/
theorem stagedValuesInvisible : Obligations.StagedValuesInvisible := by
  intro c s₁ s₂ t₁ t₂ bus alike same runs₁ runs₂
  have start : s₁ = restage s₁.board s₂ := eq_restage_iff.mpr same
  have ends : t₁ = restage s₁.board t₂ := by
    have runs := exec_restage s₁.board s₂ bus runs₂
    rw [← start, runs₁] at runs
    exact Host.Outcome.next.inj runs
  have staged (i : Fin 64) : t₁.board[i].staged = s₁.board[i].staged ∧
      t₁.board[i].isStaged = s₁.board[i].isStaged := by
    simp [ends]
  have board : t₁ = restage t₁.board t₂ := by
    rw [ends, restage_restage_board]
  exact ⟨eq_restage_iff.mp board, staged⟩

end Sys2Proof.NoticeBoard
end

section
/-! Outgoing holds: the evaluation of an inbox against its marks, and what the writes of HOLDCFG set going
(R120, R122, R123, R126). -/

namespace Sys2Proof.Holding

open Sys2Proof.Machine Sys2Proof.Linkage Sys2Proof.Safety

section
variable {s t u : State}

/-! ## What moves nothing but outgoing holds -/

/-- `t` is `s` but for the hold states of the inboxes, the asserted set, the pending sets and the refresh timer. -/
structure OnlyOutgoing (s t : State) : Prop where
  frame : t = { s with hold := t.hold }
  timers : t.hold.timers = s.hold.timers
  manual : t.hold.manual = s.hold.manual

theorem OnlyOutgoing.refl (s : State) : OnlyOutgoing s s := ⟨rfl, rfl, rfl⟩

theorem OnlyOutgoing.trans (first : OnlyOutgoing s t) (second : OnlyOutgoing t u) : OnlyOutgoing s u where
  frame := second.frame.trans (congrArg (fun v : State => { v with hold := u.hold }) first.frame)
  timers := second.timers.trans first.timers
  manual := second.manual.trans first.manual

theorem onlyOutgoing_updateAsserted (s : State) : OnlyOutgoing s (updateAsserted s) := ⟨rfl, rfl, rfl⟩

/-! ## The evaluation of one inbox (R122) -/

theorem evalInbox_off (n : Fin 4) (off : s.cfg.holdcfg.outEn = false) : evalInbox n s = s := if_neg (by simp [off])

/-- The hold state of an inbox is evaluated, then the asserted set follows. -/
theorem evalInbox_on (n : Fin 4) (on : s.cfg.holdcfg.outEn = true) : evalInbox n s =
    updateAsserted { s with hold := { s.hold with
      holding := s.hold.holding.set n (s.cfg.hmark[n].evaluate s.hold.holding[n] (s.occupancy n)) } } := if_pos on

theorem evalInbox_holding_self (n : Fin 4) (on : s.cfg.holdcfg.outEn = true) :
    (evalInbox n s).hold.holding[n] = s.cfg.hmark[n].evaluate s.hold.holding[n] (s.occupancy n) := by
  rw [evalInbox_on n on]
  exact Vector.getElem_set_self _

theorem evalInbox_holding_other (n : Fin 4) (s : State) {k : Fin 4} (other : k ≠ n) :
    (evalInbox n s).hold.holding[k] = s.hold.holding[k] := by
  cases out : s.cfg.holdcfg.outEn with
  | false => rw [evalInbox_off n out]
  | true =>
    rw [evalInbox_on n out]
    exact Vector.getElem_set_ne n.isLt k.isLt fun same => other (Fin.ext same.symm)

theorem onlyOutgoing_evalInbox (n : Fin 4) (s : State) : OnlyOutgoing s (evalInbox n s) := by
  cases out : s.cfg.holdcfg.outEn with
  | false => rw [evalInbox_off n out]; exact .refl s
  | true => rw [evalInbox_on n out]; exact ⟨rfl, rfl, rfl⟩

/-- HOLDING lasts above the effective low mark, and begins at HIGH. -/
theorem evaluate_iff (m : HMark) (holding : Bool) (occupancy : Nat) : m.evaluate holding occupancy = true ↔
    (holding = true ∧ m.effectiveLow < occupancy) ∨ (holding = false ∧ m.high.toNat ≤ occupancy) := by
  cases holding <;> simp [HMark.evaluate]

/-! ## The asserted set and the pending sets (R123) -/

/-- A class that joins is pending assertion, one that leaves is not, and any other is as it was. -/
theorem updateAsserted_pendAssert (s : State) (c : Fin 4) : (updateAsserted s).hold.pendAssert.getLsbD c =
    if (updateAsserted s).hold.asserted.getLsbD c = s.hold.asserted.getLsbD c then s.hold.pendAssert.getLsbD c
    else (updateAsserted s).hold.asserted.getLsbD c := by
  unfold updateAsserted
  dsimp only
  simp only [BitVec.getLsbD_and, BitVec.getLsbD_or, BitVec.getLsbD_not, c.isLt, decide_true]
  cases s.hold.asserted.getLsbD c <;> cases s.wantedClasses.getLsbD c <;> simp

/-- A class that joins is not pending release, one that leaves is unless NO_RELEASE is 1, and any other is as it was. -/
theorem updateAsserted_pendRelease (s : State) (c : Fin 4) : (updateAsserted s).hold.pendRelease.getLsbD c =
    if (updateAsserted s).hold.asserted.getLsbD c = s.hold.asserted.getLsbD c then s.hold.pendRelease.getLsbD c
    else !(updateAsserted s).hold.asserted.getLsbD c &&
      (!s.cfg.holdcfg.noRelease || s.hold.pendRelease.getLsbD c) := by
  unfold updateAsserted
  dsimp only
  cases s.cfg.holdcfg.noRelease <;>
  · simp only [BitVec.getLsbD_and, BitVec.getLsbD_or, BitVec.getLsbD_not, c.isLt, decide_true, if_true,
      Bool.false_eq_true, if_false]
    cases s.hold.asserted.getLsbD c <;> cases s.wantedClasses.getLsbD c <;> simp

/-! ## The writes of HOLDCFG (R118, R120, R126, R170) -/

/-- IN_EN written: the incoming hold timers end where it was 1 and is 0 (R120). -/
theorem applyInEn_eq (was : Bool) (s : State) : applyInEn was s = { s with hold := { s.hold with
    timers := if was = true ∧ s.cfg.holdcfg.inEn = false then Vector.replicate _ none else s.hold.timers } } := by
  cases was <;> cases enabled : s.cfg.holdcfg.inEn <;> simp [applyInEn, enabled]

theorem applyOutEn_same {was : Bool} (same : was = s.cfg.holdcfg.outEn) : applyOutEn was s = s := by
  subst same
  unfold applyOutEn
  cases s.cfg.holdcfg.outEn <;> rfl

theorem applyOutEn_opened (on : s.cfg.holdcfg.outEn = true) :
    applyOutEn false s = evalInbox 3 (evalInbox 2 (evalInbox 1 (evalInbox 0 s))) := by
  unfold applyOutEn
  rw [on]

/-- With every inbox clear no class is wanted, so all that are asserted leave (R126). -/
theorem applyOutEn_closed (off : s.cfg.holdcfg.outEn = false) : applyOutEn true s = { s with hold := { s.hold with
    holding := Vector.replicate _ false, asserted := 0, pendAssert := 0, refresh := none
    pendRelease :=
      if s.cfg.holdcfg.noRelease then s.hold.pendRelease else s.hold.pendRelease ||| s.hold.asserted } } := by
  have nobody : ({ s with hold := { s.hold with holding := Vector.replicate _ false } } : State).wantedClasses = 0 :=
    wantedClasses_of_clear fun n => by simp
  have all (m : BitVec 4) : m &&& 15#4 = m := BitVec.and_allOnes
  unfold applyOutEn
  simp [off, updateAsserted, nobody, all]

theorem onlyOutgoing_applyOutEn (was : Bool) (s : State) : OnlyOutgoing s (applyOutEn was s) := by
  cases was <;> cases out : s.cfg.holdcfg.outEn
  case false.true =>
    rw [applyOutEn_opened out]
    exact (((onlyOutgoing_evalInbox 0 s).trans (onlyOutgoing_evalInbox 1 _)).trans
      (onlyOutgoing_evalInbox 2 _)).trans (onlyOutgoing_evalInbox 3 _)
  case true.false => rw [applyOutEn_closed out]; exact ⟨rfl, rfl, rfl⟩
  all_goals rw [applyOutEn_same out.symm]; exact .refl s

/-- The state with the fields of HOLDCFG written and the classes released that IN_EN no longer holds, before OUT_EN
counts. -/
def holdcfgTaken (w : Word) (s : State) : State := { s with
  cfg := { s.cfg with holdcfg := ⟨w.getLsbD 0, w.getLsbD 1, w.getLsbD 2, w.extractLsb' 16 16,
    s.cfg.holdcfg.refreshMargin⟩ }
  hold := { s.hold with timers :=
    if s.cfg.holdcfg.inEn = true ∧ w.getLsbD 0 = false then Vector.replicate _ none else s.hold.timers } }

theorem writeHoldcfg_eq (w : Word) (s : State) :
    writeHoldcfg .holdcfg w s = applyOutEn s.cfg.holdcfg.outEn (holdcfgTaken w s) :=
  congrArg (applyOutEn s.cfg.holdcfg.outEn) (applyInEn_eq _ _)

theorem holdcfgTaken_timers (w : Word) (s : State) (c : Fin 4) : (holdcfgTaken w s).hold.timers[c] =
    if s.cfg.holdcfg.inEn = true ∧ w.getLsbD 0 = false then none else s.hold.timers[c] := by
  simp only [holdcfgTaken]
  split <;> simp

end

/-- Settles O12: the inbox by its marks, then the asserted set and, class by class, the pending sets. -/
theorem evaluationMovesClasses : Obligations.EvaluationMovesClasses := by
  intro n s
  refine ⟨evalInbox_off n, fun on => ?_⟩
  obtain ⟨frame, timers, manual⟩ := onlyOutgoing_evalInbox n s
  refine ⟨frame, timers, manual, ?_, fun k other => evalInbox_holding_other n s other, ?_⟩
  · rw [evalInbox_holding_self n on]
    exact evaluate_iff ..
  · rw [evalInbox_on n on]
    refine ⟨fun c => wantedClasses_getLsbD _ c, fun c => ?_, rfl⟩
    rw [updateAsserted_pendAssert, updateAsserted_pendRelease]
    refine ⟨fun ⟨joined, was⟩ => ?_, fun ⟨left, was⟩ => ?_, fun same => ⟨if_pos same, if_pos same⟩⟩
    · simp only [joined, was, reduceCtorEq, if_false, Bool.not_true, Bool.false_and, and_self]
    · simp only [left, was, reduceCtorEq, if_false, Bool.not_false, Bool.true_and, and_self]

/-- Settles O13: the fields are taken and IN_EN counts, then OUT_EN by what it was and what is written. -/
theorem holdSettingsTakeEffect : Obligations.HoldSettingsTakeEffect := by
  intro w now s running is
  rw [exec_holdcfgWrite now running, exec_holdcfgWrite now running, ← is]
  obtain ⟨frame, timers, manual⟩ := onlyOutgoing_applyOutEn s.cfg.holdcfg.outEn (holdcfgTaken w s)
  have cfg : (applyOutEn s.cfg.holdcfg.outEn (holdcfgTaken w s)).cfg = (holdcfgTaken w s).cfg := by simp
  refine ⟨rfl, _, congrArg (Host.Outcome.next ∘ afterHost) (writeHoldcfg_eq w s), ?_, cfg, manual, fun c => ?_,
    fun was off => ?_, fun same => ?_, fun was on => ?_⟩
  · rw [cfg]; exact frame
  · rw [timers]; exact holdcfgTaken_timers w s c
  · rw [was, applyOutEn_closed (s := holdcfgTaken w s) off]
    exact ⟨fun n => by simp, rfl, rfl, rfl, rfl⟩
  · rw [applyOutEn_same (s := holdcfgTaken w s) same]
    rfl
  · rw [cfg, timers, was, applyOutEn_opened (s := holdcfgTaken w s) on]
    rfl

end Sys2Proof.Holding
end

section
/-! The Timebase: a timer as the number of HCLK cycles that it has left (R130, R131). -/

namespace Sys2Proof.Timebase

open Sys2Proof.Machine

/-- The timer runs, and reaches its end after `m` more cycles while TICKDIV stays: those of the microsecond in progress,
then d + 1 for each that follows. -/
structure RunsFor (d m : Nat) (t : Timer) : Prop where
  us : 0 < t.us
  cyc : 0 < t.cyc
  left : (t.us - 1) * (d + 1) + t.cyc = m

section
variable {d m n : Nat} {t : Timer}

theorem RunsFor.not_due (h : RunsFor d m t) : t.due = false := beq_false_of_ne h.us.ne'

theorem start_runsFor (d : Nat) (pos : 0 < n) : ∃ t, Timer.start d n = some t ∧ RunsFor d (n * (d + 1)) t := by
  refine ⟨⟨n, d + 1⟩, if_neg pos.ne', pos, Nat.succ_pos d, ?_⟩
  rw [← Nat.succ_mul, Nat.succ_eq_add_one, Nat.sub_add_cancel pos]

/-- A cycle that is not the timer's last is within a microsecond, or the last of one that another follows. -/
theorem RunsFor.tick (h : RunsFor d (m + 1) t) (more : 0 < m) : RunsFor d m (t.tick d) := by
  obtain ⟨us, cyc, left⟩ := h
  unfold Timer.tick
  split
  · exact ⟨us, by dsimp only; omega, by dsimp only; omega⟩
  · obtain ⟨k, is⟩ : ∃ k, t.us - 1 = k + 1 := by
      refine Nat.exists_eq_succ_of_ne_zero fun last => ?_
      rw [last, Nat.zero_mul] at left
      omega
    rw [is, Nat.succ_mul] at left
    refine ⟨by dsimp only; omega, Nat.succ_pos d, ?_⟩
    dsimp only
    rw [is, Nat.add_sub_cancel]
    omega

theorem RunsFor.tick_last (h : RunsFor d 1 t) : (t.tick d).due = true := by
  obtain ⟨us, cyc, left⟩ := h
  have whole : (t.us - 1) * (d + 1) = 0 := by omega
  have one : t.us - 1 = 0 := (Nat.mul_eq_zero.mp whole).resolve_right (Nat.succ_ne_zero d)
  rw [Timer.tick, if_neg (by omega), Timer.due, one]
  rfl

theorem RunsFor.iterate (h : RunsFor d m t) {k : Nat} (early : k < m) : RunsFor d (m - k) ((Timer.tick d)^[k] t) := by
  induction k with
  | zero => exact h
  | succ k ih =>
    have before := ih (Nat.lt_of_succ_lt early)
    rw [Function.iterate_succ_apply']
    rw [show m - k = m - (k + 1) + 1 by omega] at before
    exact before.tick (Nat.sub_pos_of_lt early)

theorem RunsFor.due_iterate (h : RunsFor d m t) (pos : 0 < m) : ((Timer.tick d)^[m] t).due = true := by
  obtain ⟨k, rfl⟩ : ∃ k, m = k + 1 := ⟨m - 1, (Nat.sub_add_cancel pos).symm⟩
  have last := h.iterate (Nat.lt_succ_self k)
  rw [Nat.add_sub_cancel_left] at last
  rw [Function.iterate_succ_apply']
  exact last.tick_last

end

/-- Settles O3: a timer of n microseconds is started with all its cycles left, and each tick takes one. -/
theorem timerRunsItsFullTime : Obligations.TimerRunsItsFullTime := by
  intro d n pos
  obtain ⟨t, started, runs⟩ := start_runsFor d pos
  exact ⟨t, started, runs.due_iterate (Nat.mul_pos pos (Nat.succ_pos d)),
    fun k early => (runs.iterate early).not_due⟩

end Sys2Proof.Timebase
end

section
/-! The queue of waiting commands: every row answers a next state and leaves the queue alone (logs 1 and 4). -/

namespace Sys2Proof.Timebase

open Sys2Proof.Machine Sys2Proof.Linkage

/-- An effect leaves the queue of waiting commands alone. -/
def KeepsQueue (f : State → State) : Prop := ∀ s, (f s).pending = s.pending

/-! ## Line events and expiries -/

theorem endAttempt_pending (w : Option Parcel) (r : RxResult) (s : State) :
    (StrandBus.endAttempt w r s).pending = s.pending := by
  cases w <;> simp [StrandBus.endAttempt]

theorem receptionEnds_pending (w : Option Parcel) (r : RxResult) (s : State) :
    (receptionEnds w r s).pending = s.pending := by
  have kept : (dispose w.isSome r (StrandBus.endAttempt w r (countReception r s))).2.pending = s.pending := by
    simp [endAttempt_pending]
  rcases d : dispose w.isSome r (StrandBus.endAttempt w r (countReception r s)) with ⟨_ | a, t⟩ <;> rw [d] at kept
  · rw [StrandBus.receptionEnds_unanswered d]
    simpa using kept
  · rw [StrandBus.receptionEnds_answered d]
    simpa using kept

/-- A line event leaves the state, or goes on with operations that each leave the queue alone. -/
theorem keepsQueue_line {c : Instr} {f : State → State} (is : lineEffect c = some f) : KeepsQueue f := by
  intro s
  cases c <;> cases is
  case parcelReceived items =>
    exact onParcel_induction (Q := fun t => t.pending = s.pending) items rfl fun w r _ _ => receptionEnds_pending w r s
  all_goals
    simp only [onLeadMark, onContentionWon, onArbitrationLoss, onBitClash, onMarkFault, onSentCleanly, onAnswerSent,
      onAnswerStart, onWindowExpiry, onQuietGapEnd, onLineHigh, onStrayPulse]
    repeat' split
    all_goals simp

/-- An expiry acts, by operations that each leave the queue alone, where its timer runs. -/
theorem keepsQueue_expiry (e : Expiry) : KeepsQueue e.effect := by
  intro s
  cases e
  case backoff c => rfl
  all_goals
    simp only [Expiry.effect, onHoldExpiry, onRefreshExpiry, onLeaseExpiry, onMirrorExpiry, onStuckExpiry,
      onDozeIdleExpiry]
    split <;> simp

/-! ## Commands -/

theorem flush_pending (l : List SlotId) (s : State) :
    (l.foldl (fun t n => decideOutcome n .flushed 0 t) s).pending = s.pending := by
  induction l generalizing s with
  | nil => rfl
  | cons n l ih =>
    rw [List.foldl_cons, ih]
    simp

@[simp] theorem submitWake_pending (e : Edge) (s : State) : (submitWake e s).pending = s.pending := by
  unfold submitWake
  repeat' split
  all_goals simp

@[simp] theorem advanceSel_pending (a : BitVec 24) (s : State) : (advanceSel a s).pending = s.pending := by
  unfold advanceSel
  split <;> rfl

/-- A command is refused, or goes on with operations that each leave the queue alone. -/
theorem command_pending {c : Instr} {code : BitVec 8} {f : State → CmdOut} (is : commandOf c = some (code, f))
    (s : State) : (f s).2.2.pending = s.pending := by
  cases c <;> cases is
  case flushClass a =>
    unfold cmdFlushClass
    split
    · rfl
    · exact flush_pending _ s
  case tableWrite a =>
    unfold cmdTableWrite
    split
    · rfl
    · rename_i t written
      rw [writeEntry_eq s written]
      simp [okWith]
  all_goals
    simp only [cmdSubmit, cmdCancel, cmdRetire, cmdCqPop, cmdTagReset, cmdInboxPop, cmdInboxFlush, cmdTableRead,
      cmdPublish, cmdPublishForce, cmdWithdraw, cmdAbsorb, cmdHoldSend, cmdSessionDrop, cmdBreakClaim, cmdDoze, cmdWake,
      cmdLinkRestart, cmdQuarantineClear, cmdCountersClear]
    repeat' split
    all_goals simp [refuse, okWith, setInbox]

theorem finishCommand_pending (code : BitVec 8) (out : CmdOut) :
    (finishCommand code out).pending = out.2.2.pending := by
  simp [finishCommand]

theorem keepsQueue_runCommand (code : BitVec 8) (arg : BitVec 24) :
    KeepsQueue fun s => finishCommand code (runCommand code arg s) := by
  intro s
  rw [finishCommand_pending, runCommand_eq, commandResult]
  split
  · exact command_pending ‹_› s
  · rfl

/-! ## Register writes -/

@[simp] theorem applyOutEn_pending (was : Bool) (s : State) : (applyOutEn was s).pending = s.pending := by
  unfold applyOutEn
  split <;> simp

@[simp] theorem softReset_pending (s : State) : (softReset s).pending = s.pending := rfl

/-- A write is refused, or changes what it names by operations that each leave the queue alone. -/
theorem keepsQueue_writeReg (r : Reg) (w : Word) : KeepsQueue (writeReg r w) := by
  intro s
  cases r
  case cmdw => exact keepsQueue_runCommand _ _ s
  case holdcfg =>
    rw [writeReg, Holding.writeHoldcfg_eq, applyOutEn_pending]
    rfl
  all_goals
    simp only [writeReg, writeSctl, writeIdent, writeLinkcfg, writeTickdiv, writeQuota, writeRoutecfg, writeHmark,
      writeHoldcfg, writeDozecfg, writeBoard, writeBoardrd, writeBoardwr]
    repeat' split
    all_goals simp

theorem keepsQueue_host {c : Instr} {f : State → State} (act : HostAct c f) : KeepsQueue f := by
  intro s
  cases act with
  | command is => rw [finishCommand_pending, command_pending is]
  | badCode code => exact keepsQueue_runCommand code 0 s
  | softReset => rfl
  | enable f => simp
  | disable f => simp
  | clear w e => simp
  | read => simp
  | register is => exact keepsQueue_writeReg _ _ s
  | any off w =>
    unfold writeOffset
    split
    · exact keepsQueue_writeReg _ w s
    · rfl

/-! ## Events: the effect, with what is due before it and the end of the event after it (R132) -/

section
variable {f : State → State} (keeps : KeepsQueue f) (s : State)
include keeps

theorem KeepsQueue.timerEvent : (timerEvent f s).pending = s.pending := by
  unfold Machine.timerEvent unlessReset
  split
  · rfl
  · simp [keeps (markEdge _)]

omit keeps in
theorem expireDue_pending : (expireDue s).pending = s.pending := by
  have expire (t : State) (e : Expiry) : (expire t e).pending = t.pending := by
    unfold Machine.expire
    split
    · exact (keepsQueue_expiry e).timerEvent t
    · rfl
  have all (l : List Expiry) (t : State) : (l.foldl Machine.expire t).pending = t.pending := by
    induction l generalizing t with
    | nil => rfl
    | cons e l ih => exact (ih _).trans (expire t e)
  exact (all expiries _).trans (by simp)

theorem KeepsQueue.lineEvent : (lineEvent f s).pending = s.pending := by
  have opens : (openEdge s).pending = s.pending := by
    unfold openEdge
    split <;> simp [expireDue_pending]
  unfold Machine.lineEvent unlessReset
  split
  · rfl
  · simp [keeps (openEdge s), opens]

theorem KeepsQueue.hostEvent : (hostEvent f s).pending = s.pending := by
  unfold Machine.hostEvent unlessReset
  split
  · rfl
  · simp [keeps (expireDue s), expireDue_pending]

end

/-- Every row answers a next state, with the same commands waiting. -/
theorem exec_keeps_queue (c : Instr) (s : State) : ∃ t, exec c s = .next t ∧ t.pending = s.pending := by
  cases rowKind c with
  | line is => exact ⟨_, exec_of_line is, (keepsQueue_line is).lineEvent s⟩
  | expiry e => exact ⟨_, exec_expiry s e, (keepsQueue_expiry e).timerEvent s⟩
  | dozeEntered => exact ⟨_, rfl, KeepsQueue.timerEvent (fun t => by simp) s⟩
  | host act =>
    by_cases read : s.inReset = true ∧ c = .evstReadClear
    · obtain ⟨low, rfl⟩ := read
      exact ⟨_, exec_evstReadClear_low low, rfl⟩
    · exact ⟨_, exec_of_host act (by simpa [or_iff_not_imp_left] using read), (keepsQueue_host act).hostEvent s⟩
  | reset =>
    refine ⟨_, exec_reset s, ?_⟩
    split <;> rfl
  | powerOn => exact ⟨_, exec_powerOn s, rfl⟩

/-- Settles O1: a step takes the front command, and every row keeps the queue. -/
theorem stepRunsFrontCommand : Obligations.StepRunsFrontCommand :=
  fun c _ s => ⟨rfl, exec_keeps_queue c s⟩

end Sys2Proof.Timebase
end

section
/-! Recovery of the link: LINK_RESTART and QUARANTINE_CLEAR (R134, R138, R139). -/

namespace Sys2Proof.Timebase

open Sys2Proof.Machine Sys2Proof.Safety

section
variable {s : State}

theorem cmdLinkRestart_off (off : s.link.act = .off) : cmdLinkRestart s = refuse .disabled s := by
  simp [cmdLinkRestart, State.linkEn, off]

theorem cmdLinkRestart_dozing (on : s.link.act ≠ .off) (dozing : s.doze.state = .dozing) :
    cmdLinkRestart s = refuse .wrongState s := by
  simp [cmdLinkRestart, State.linkEn, on, dozing]

/-- The activity is abandoned with SLINE released first, which the abandonment does not look at (R22, R138). -/
theorem cmdLinkRestart_settles (on : s.link.act ≠ .off) (awake : s.doze.state ≠ .dozing) : cmdLinkRestart s =
    okWith (if s.link.quarantine then 1 else 0) { abandon s with link := { (abandon s).link with
      act := .settling, bus := .ignoring, faults := 0, quarantine := false
      line := { lineReleased s with
        stuck := if (lineReleased s).low.isSome then Timer.start s.div (s.cfg.linkcfg.stuckLimit.toNat * 100)
          else none } } } := by
  rw [cmdLinkRestart, State.linkEn, decide_eq_true on, if_neg (by decide), if_neg awake, releaseLine_eq,
    abandon_setLine, enterSettling, stuckTimer_zero]
  simp [clearQuarantine, setLine, State.div]

theorem cmdQuarantineClear_outside (outside : s.link.quarantine = false) :
    cmdQuarantineClear s = refuse .wrongState s := by
  simp [cmdQuarantineClear, outside]

theorem cmdQuarantineClear_ends (inside : s.link.quarantine = true) : cmdQuarantineClear s =
    okWith 0 { s with link := { s.link with faults := 0, quarantine := false } } := if_pos inside

end

/-- Settles O31, by the link state, doze and quarantine. -/
theorem restartAndQuarantineClear : Obligations.RestartAndQuarantineClear := by
  intro now s high found
  rw [exec_linkRestart now high, exec_quarantineClear now high, ← found]
  refine ⟨fun off => ?_, fun on dozing => ?_, fun on awake => ?_, fun outside => ?_, fun inside => ?_⟩
  · rw [cmdLinkRestart_off off, finishCommand_refuse _ _ _ (by decide)]
  · rw [cmdLinkRestart_dozing on dozing, finishCommand_refuse _ _ _ (by decide)]
  · rw [cmdLinkRestart_settles on awake, finishCommand_okWith]
    cases s.link.quarantine <;> rfl
  · rw [cmdQuarantineClear_outside outside, finishCommand_refuse _ _ _ (by decide)]
  · rw [cmdQuarantineClear_ends inside, finishCommand_okWith]
    rfl

end Sys2Proof.Timebase
end

section
/-! DOZE and WAKE (R142, R143, R146, R147). -/

namespace Sys2Proof.Dozing

open Sys2Proof.Machine Sys2Proof.Safety Sys2Proof.Linkage

section
variable {s : State}

/-! ## DOZE -/

theorem cmdDoze_off (off : s.link.act = .off) : cmdDoze s = refuse .disabled s := by
  simp [cmdDoze, State.linkEn, off]

theorem cmdDoze_notAwake (on : s.link.act ≠ .off) (notAwake : s.doze.state ≠ .awake) :
    cmdDoze s = refuse .wrongState s := by
  simp [cmdDoze, State.linkEn, on, notAwake]

/-- The entry test of R143 follows the request within the command. -/
theorem cmdDoze_awake (on : s.link.act ≠ .off) (awake : s.doze.state = .awake) : cmdDoze s =
    okWith (if (enterDoze (setDoze .pending s)).doze.state = .dozing then 1 else 0)
      (enterDoze (setDoze .pending s)) := by
  simp [cmdDoze, State.linkEn, on, awake]

theorem cmdDoze_enters (on : s.link.act ≠ .off) (awake : s.doze.state = .awake)
    (idle : s.link.act = .idle) (noHold : s.holdPending = false) : cmdDoze s =
    okWith 1 (raise .dozeEntered
      { s with doze := { state := .dozing, idle := none, causes := 0, filter := 0 } }) := by
  rw [cmdDoze_awake on awake, enterDoze_entered (setDoze .pending s) rfl idle noHold]
  rfl

theorem cmdDoze_waits (on : s.link.act ≠ .off) (awake : s.doze.state = .awake)
    (waits : ¬ (s.link.act = .idle ∧ s.holdPending = false)) : cmdDoze s = okWith 0 (setDoze .pending s) := by
  rw [cmdDoze_awake on awake, enterDoze_other (setDoze .pending s) fun ⟨_, free⟩ => waits free]
  rfl

/-- DOZE with its checks in order, then the entry test. -/
theorem finish_doze : finishCommand 0x20 (cmdDoze s) =
    if s.link.act = .off then commandRefused 0x20 .disabled 0 s
    else if s.doze.state ≠ .awake then commandRefused 0x20 .wrongState 0 s
    else if s.link.act = .idle ∧ s.holdPending = false then
      commandOk 0x20 1 (raise .dozeEntered
        { s with doze := { state := .dozing, idle := none, causes := 0, filter := 0 } })
    else commandOk 0x20 0 (setDoze .pending s) := by
  split_ifs with off notAwake enters
  · rw [cmdDoze_off off, finishCommand_refuse _ _ _ (by decide)]
  · rw [cmdDoze_notAwake off notAwake, finishCommand_refuse _ _ _ (by decide)]
  · obtain ⟨idle, noHold⟩ := enters
    rw [cmdDoze_enters off (not_not.mp notAwake) idle noHold]
    exact finishCommand_okWith 0x20 1 _
  · rw [cmdDoze_waits off (not_not.mp notAwake) enters]
    exact finishCommand_okWith 0x20 0 _

/-! ## WAKE -/

theorem cmdWake_dozing (e : Edge) (dozing : s.doze.state = .dozing) :
    cmdWake e s = okWith 1 (wakeUp .host s) := by rw [cmdWake, dozing]

theorem cmdWake_pending (e : Edge) (pending : s.doze.state = .pending) :
    cmdWake e s = okWith 0 (setDoze .awake s) := by rw [cmdWake, pending]

theorem cmdWake_awake (e : Edge) (awake : s.doze.state = .awake) : cmdWake e s =
    if e = .shared ∧ s.events.edgeWoken = true then okWith 1 (addCause .host s) else refuse .wrongState s := by
  rw [cmdWake, awake]

/-- WAKE by doze state; a controller that is awake was woken on this edge or is in the wrong state (R147). -/
theorem finish_wake (e : Edge) : finishCommand 0x21 (cmdWake e s) =
    if s.doze.state = .dozing then commandOk 0x21 1 (wakeUp .host s)
    else if s.doze.state = .pending then commandOk 0x21 0 (setDoze .awake s)
    else if e = .shared ∧ s.events.edgeWoken = true then commandOk 0x21 1 (addCause .host s)
    else commandRefused 0x21 .wrongState 0 s := by
  cases doze : s.doze.state with
  | dozing =>
    rw [cmdWake_dozing e doze, if_pos rfl]
    exact finishCommand_okWith 0x21 1 _
  | pending =>
    rw [cmdWake_pending e doze, if_neg (by decide), if_pos rfl]
    exact finishCommand_okWith 0x21 0 _
  | awake =>
    rw [cmdWake_awake e doze, if_neg (by decide : DozeState.awake ≠ .dozing),
      if_neg (by decide : DozeState.awake ≠ .pending), apply_ite (finishCommand 0x21),
      finishCommand_refuse _ _ _ (by decide), finishCommand_okWith]
    rfl

end

/-- Settles O30: the branches of the two commands, each followed by the steps of every command. -/
theorem dozeAndWakeCommands : Obligations.DozeAndWakeCommands := by
  intro e now s high found
  rw [exec_doze now high, exec_wake now high, ← found, finish_doze, finish_wake]
  simp only [holdPending_false_iff]
  exact ⟨rfl, rfl⟩

end Sys2Proof.Dozing
end

section
/-! Reset and start-up: the registers after reset, the controller while RESET# is low, SOFT_RESET (R158, R159, section
11.2). -/

namespace Sys2Proof.Startup

open Sys2Proof.Machine Sys2Proof.Safety Sys2Proof.Linkage

/-! ## The registers after reset (section 12.5) -/

theorem levels_zero {s : State} (completions : s.calls.cq = []) (inboxes : s.intake = {}) : s.levels = 0 := by
  refine BitVec.eq_of_getLsbD_eq fun i lt => ?_
  simp [State.levels, lt, completions, inboxes]

theorem bytesWord_nil (k : Nat) : bytesWord [] k = 0 := by simp [bytesWord]

/-- Every slot is free after reset, and a free slot shows 0 in each of its words (R64). -/
theorem slotview_reset (i : Fin 10) : State.reset.slotview i = 0 := by
  have slot : State.reset.calls.slots[(0 : SlotId)] = {} := rfl
  rw [slotview_of_slot (n := 0) rfl, slot]
  split_ifs
  · rfl
  · rfl
  · exact bytesWord_nil _

theorem sessview_reset (i : Fin 7) : State.reset.sessview i = 0 := by
  by_cases first : i = 0
  · subst first; rfl
  · exact sessview_above (Nat.pos_of_ne_zero fun zero => first (Fin.ext zero))

/-- No flag and no attribute of a board entry is set after reset (R108, R109). -/
theorem boardBits_reset (i : Fin 2) {f : BoardEntry → Bool} (clear : f {} = false) :
    boardBits i f State.reset.board = 0 := by
  refine BitVec.eq_of_getLsbD_eq fun k lt => ?_
  simpa [boardBits, State.reset, BitVec.getLsbD_ofFnLE] using fun _ => clear

/-- All 24 slots are free after reset, the link is off and the lists are empty (R168). -/
theorem sstat_reset : State.reset.sstat = 0x00001800 := rfl

theorem evst_reset : State.reset.evst = 0 := by
  rw [State.evst, levels_zero rfl rfl]
  rfl

theorem readReg_reset (r : Reg) : State.reset.readReg r = resetValue r := by
  cases r with
  | sstat => exact sstat_reset
  | evst => exact evst_reset
  | slotview i => exact slotview_reset i
  | cqview i => exact cqview_empty (s := State.reset) rfl i
  | ibview i => exact ibview_empty (s := State.reset) (n := 0) rfl rfl i
  | sessview i => exact sessview_reset i
  | boardrd i => exact boardBits_reset i rfl
  | boardwr i => exact boardBits_reset i rfl
  | boardstg i => exact boardBits_reset i rfl
  | boardmod i => exact boardBits_reset i rfl
  | stage i => simp [State.readReg, State.reset, resetValue]
  | tbldata i => simp [State.readReg, State.reset, resetValue]
  | hmark n => simp [State.readReg, State.reset, resetValue, HMark.word]
  | cnt i => simp [State.readReg, State.reset, resetValue]
  | holdview n => simp [State.readReg, State.reset, resetValue, State.holdview]
  | board n => simp [State.readReg, State.reset, resetValue, BoardEntry.view]
  | _ => rfl

/-- No register shows what a reset leaves of the pin. -/
theorem readReg_hardReset (low : Bool) (s : State) (r : Reg) : (hardReset low s).readReg r = State.reset.readReg r := by
  cases r <;> rfl

/-! ## The pin -/

/-- A reset releases SLINE and stops the stuck timer (R1, R158, R159). -/
theorem pinAfterReset_eq (s : State) :
    s.pinAfterReset = { lineReleased s with stuck := none, cell := 0, cellAge := 0 } := by
  rw [State.pinAfterReset, releaseLine_eq]
  rfl

theorem timersStopped_hardReset (low : Bool) (s : State) : timersStopped (hardReset low s) := by
  simp [timersStopped, State.pinAfterReset]

/-! ## While RESET# is low (R158) -/

section
variable {s : State} (low : s.inReset = true)
include low

theorem exec_low {c : Instr} (reset : c ≠ .reset) (powerOn : c ≠ .powerOn) (read : c ≠ .evstReadClear) :
    exec c s = .next s := by
  cases rowKind c with
  | line is => exact (exec_of_line is).trans (congrArg done (lineEvent_low s low _))
  | expiry e => exact (exec_expiry s e).trans (congrArg done (timerEvent_low s low _))
  | dozeEntered => exact congrArg done (timerEvent_low s low enterDoze)
  | host act => exact (exec_of_host act (.inr read)).trans (congrArg done (hostEvent_low s low _))
  | reset => exact absurd rfl reset
  | powerOn => exact absurd rfl powerOn

theorem step_low (idle : s.pending = []) : step s = .next (followPin s) := by
  rw [step, idle]
  simp [tick, low]

end

/-! ## The resets -/

theorem exec_hardReset {c : Instr} (s : State) (is : c = .reset ∨ c = .powerOn) :
    exec c s = .next (hardReset (if c = .powerOn then true else !s.inReset) s) := by
  obtain rfl | rfl := is
  · rw [exec_reset]
    cases s.inReset <;> rfl
  · rfl

/-- Settles O8: the resets leave one state but for the queue, the pin and RESET#, and while RESET# is low each kind of row
but the resets changes nothing. -/
theorem hardResetState : Obligations.HardResetState := by
  intro s line
  have link (low : Bool) : (hardReset low s).link = { line := line } :=
    congrArg (fun l : Line => ({ line := l } : LinkEngine)) (pinAfterReset_eq s)
  refine ⟨fun c is => ?_, fun low => ?_⟩
  · have registers (low : Bool) (r : Reg) : (hardReset low s).readReg r = resetValue r :=
      (readReg_hardReset low s r).trans (readReg_reset r)
    have routes (i : Fin 16) : State.reset.cfg.routes[i] = {} := by simp [State.reset]
    have filters (i : Fin 4) : State.reset.cfg.filters[i] = {} := by simp [State.reset]
    have board (i : Fin 64) : State.reset.board[i] = {} := by simp [State.reset]
    exact ⟨_, exec_hardReset s is, rfl, registers _, rfl, rfl, timersStopped_hardReset _ s, rfl, rfl, rfl, rfl, rfl,
      routes, filters, board, link _, rfl, rfl⟩
  · have reads (off : BitVec 10) : s.readOffset off = 0 := by simp [State.readOffset, low]
    exact ⟨reads, fun c => exec_low low, exec_evstReadClear_low low, step_low low⟩

/-- The end of a host access finds nothing to do where the link is off, the Doze Unit is as after reset and EVST is
clear. -/
theorem afterHost_of_still {s : State} (off : s.link.act = .off) (doze : s.doze = {}) (events : s.events = {})
    (levels : s.levels = 0) : afterHost s = s := by
  have idle : s.idleConditions = false := by simp [State.idleConditions, off]
  have int : s.interrupt = false := by simp [State.interrupt, State.evst, events, levels]
  have selects : select s = s := select_idle s (.inl (by simp [off]))
  have enters : enterDoze s = s := enterDoze_other s (by simp [off])
  have timer : updateIdle s = s := by
    rw [updateIdle, idle]
    obtain ⟨⟩ := s
    subst doze
    rfl
  rw [afterHost, endEvent, selects, enters, timer, updateInt, int]
  obtain ⟨⟩ := s
  subst events
  rfl

theorem afterHost_softReset (s : State) : afterHost (softReset s) = softReset s :=
  afterHost_of_still rfl rfl rfl (levels_zero rfl rfl)

/-- Settles O9: the end of the access adds nothing to what SOFT_RESET leaves. -/
theorem softResetKeepsConfiguration : Obligations.SoftResetKeepsConfiguration := by
  intro now s high found
  refine ⟨softReset s, ?_, rfl, rfl, rfl, rfl, fun i => ?_, ?_, rfl, rfl, rfl, rfl, rfl, rfl, rfl⟩
  · rw [exec_softReset now high, ← found, afterHost_softReset]
  · simp [softReset, BoardEntry.absorb]
  · rw [← pinAfterReset_eq]
    rfl

end Sys2Proof.Startup
end

section
/-! The Command Port: a command answers OK or changes nothing, and a host write is the row of the table that the offset and
the word name (R164, R165, R167). -/

namespace Sys2Proof.CommandPort

open Sys2Proof.Machine Sys2Proof.Safety Sys2Proof.Linkage

/-! ## Answers of commands (R165) -/

/-- The answers that a command may give in the state `s`: OK, with whatever it leaves, or any result with `s` as it was. -/
inductive Answers (s : State) : CmdOut → Prop
  | ok (v : BitVec 16) (t : State) : Answers s (.ok, v, t)
  | same (r : CmdResult) (v : BitVec 16) : Answers s (r, v, s)

namespace Answers

variable {s t : State} {r : CmdResult} {n : Nat}

theorem refused : Answers s (refuse r s) := .same r 0
theorem done : Answers s (okWith n t) := .ok _ t

end Answers

section
variable (s : State)

theorem cmdSubmit_answers (e : Edge) : Answers s (cmdSubmit e s) := by
  unfold cmdSubmit
  repeat' split
  exacts [.same _ _, .refused, .done]
theorem cmdCancel_answers (a : BitVec 24) : Answers s (cmdCancel a s) := by
  unfold cmdCancel
  repeat' split
  exacts [.refused, .done, .done, .done, .refused]
theorem cmdRetire_answers (a : BitVec 24) : Answers s (cmdRetire a s) := by
  unfold cmdRetire
  repeat' split
  exacts [.refused, .done, .refused]
theorem cmdCqPop_answers : Answers s (cmdCqPop s) := by
  unfold cmdCqPop
  split
  exacts [.refused, .done]
theorem cmdFlushClass_answers (a : BitVec 24) : Answers s (cmdFlushClass a s) := by
  unfold cmdFlushClass
  split
  exacts [.refused, .done]
theorem cmdTagReset_answers (a : BitVec 24) : Answers s (cmdTagReset a s) := by
  unfold cmdTagReset
  dsimp only
  repeat' split
  exacts [.refused, .refused, .done]
theorem cmdInboxPop_answers (a : BitVec 24) : Answers s (cmdInboxPop a s) := by
  unfold cmdInboxPop
  repeat' split
  exacts [.refused, .refused, .ok _ _]
theorem cmdInboxFlush_answers (a : BitVec 24) : Answers s (cmdInboxFlush a s) := by
  unfold cmdInboxFlush
  split
  exacts [.refused, .done]
theorem cmdTableRead_answers (a : BitVec 24) : Answers s (cmdTableRead a s) := by
  unfold cmdTableRead
  split
  exacts [.refused, .done]
theorem cmdTableWrite_answers (a : BitVec 24) : Answers s (cmdTableWrite a s) := by
  unfold cmdTableWrite
  split
  exacts [.refused, .done]
theorem cmdPublish_answers (a : BitVec 24) : Answers s (cmdPublish a s) := by
  unfold cmdPublish
  split
  exacts [.refused, .ok _ _]
theorem cmdPublishForce_answers (a : BitVec 24) : Answers s (cmdPublishForce a s) := by
  unfold cmdPublishForce
  split
  exacts [.refused, .done]
theorem cmdWithdraw_answers (a : BitVec 24) : Answers s (cmdWithdraw a s) := by
  unfold cmdWithdraw
  split
  exacts [.refused, .done]
theorem cmdAbsorb_answers (a : BitVec 24) : Answers s (cmdAbsorb a s) := by
  unfold cmdAbsorb
  split
  exacts [.refused, .done]
theorem cmdHoldSend_answers (a : BitVec 24) : Answers s (cmdHoldSend a s) := by
  unfold cmdHoldSend
  repeat' split
  exacts [.refused, .refused, .refused, .done]
theorem cmdSessionDrop_answers : Answers s (cmdSessionDrop s) := by
  unfold cmdSessionDrop
  repeat' split
  exacts [.refused, .refused, .done]
theorem cmdBreakClaim_answers : Answers s (cmdBreakClaim s) := by
  unfold cmdBreakClaim
  split
  exacts [.refused, .done]
theorem cmdDoze_answers : Answers s (cmdDoze s) := by
  unfold cmdDoze
  split
  · exact .refused
  · split
    exacts [.refused, .done]
theorem cmdWake_answers (e : Edge) : Answers s (cmdWake e s) := by
  unfold cmdWake
  repeat' split
  exacts [.done, .done, .done, .refused]
theorem cmdLinkRestart_answers : Answers s (cmdLinkRestart s) := by
  unfold cmdLinkRestart
  split
  · exact .refused
  · split
    exacts [.refused, .done]
theorem cmdQuarantineClear_answers : Answers s (cmdQuarantineClear s) := by
  unfold cmdQuarantineClear
  split
  exacts [.done, .refused]
theorem cmdCountersClear_answers : Answers s (cmdCountersClear s) := .done

theorem command_answers {c : Instr} {code : BitVec 8} {f : State → CmdOut} (is : commandOf c = some (code, f)) :
    Answers s (f s) := by
  cases c <;> cases is
  case submit e => exact cmdSubmit_answers s e
  case cancel a => exact cmdCancel_answers s a
  case retire a => exact cmdRetire_answers s a
  case cqPop => exact cmdCqPop_answers s
  case flushClass a => exact cmdFlushClass_answers s a
  case tagReset a => exact cmdTagReset_answers s a
  case inboxPop a => exact cmdInboxPop_answers s a
  case inboxFlush a => exact cmdInboxFlush_answers s a
  case tableRead a => exact cmdTableRead_answers s a
  case tableWrite a => exact cmdTableWrite_answers s a
  case publish a => exact cmdPublish_answers s a
  case publishForce a => exact cmdPublishForce_answers s a
  case withdraw a => exact cmdWithdraw_answers s a
  case absorb a => exact cmdAbsorb_answers s a
  case holdSend a => exact cmdHoldSend_answers s a
  case sessionDrop => exact cmdSessionDrop_answers s
  case breakClaim => exact cmdBreakClaim_answers s
  case doze => exact cmdDoze_answers s
  case wake e => exact cmdWake_answers s e
  case linkRestart => exact cmdLinkRestart_answers s
  case quarantineClear => exact cmdQuarantineClear_answers s
  case countersClear => exact cmdCountersClear_answers s

/-- A row that stands for no code answers BAD_CODE. -/
theorem commandResult_answers (c : Instr) : Answers s (commandResult s c) := by
  unfold commandResult
  split
  · exact command_answers s ‹_›
  · exact .refused

theorem runCommand_answers (code : BitVec 8) (arg : BitVec 24) : Answers s (runCommand code arg s) :=
  runCommand_eq (s := s) code arg ▸ commandResult_answers s _

end

/-! ## Refused commands (R165) -/

@[simp] theorem afterHost_host (t : State) : (afterHost t).host = t.host := by simp [afterHost]

/-- CMDR tells the result of the command. -/
theorem finishCommand_result (code : BitVec 8) (out : CmdOut) : (finishCommand code out).host.cmdr.result = out.1 := by
  simp [finishCommand]

theorem finishCommand_of_answers {s : State} {out : CmdOut} (answers : Answers s out) (refused : out.1 ≠ .ok)
    (code : BitVec 8) : finishCommand code out = commandRefused code out.1 out.2.1 s := by
  cases answers with
  | ok v t => exact absurd rfl refused
  | same r v => exact finishCommand_refused code r v s refused

/-- A command of section 12.3 has its code; a write of CMDW with another code is BAD_CODE. -/
theorem commandOf_of_isCommand {c : Instr} (is : isCommand c = true) :
    (∃ code f, commandOf c = some (code, f)) ∨ ∃ code, c = .badCode code := by
  cases c with
  | badCode code => exact .inr ⟨code, rfl⟩
  | submit | cancel | retire | cqPop | flushClass | tagReset | inboxPop | inboxFlush | tableRead | tableWrite | publish
  | publishForce | withdraw | absorb | holdSend | sessionDrop | breakClaim | doze | wake | linkRestart
  | quarantineClear | countersClear => exact .inl ⟨_, _, rfl⟩
  | _ => cases is

/-- A command runs under a code, and answers OK or with the state as it was. -/
theorem hostAct_of_isCommand {c : Instr} (is : isCommand c = true) : ∃ (code : BitVec 8) (f : State → CmdOut),
    HostAct c (fun t => finishCommand code (f t)) ∧ ∀ s, Answers s (f s) := by
  obtain ⟨code, f, named⟩ | ⟨code, rfl⟩ := commandOf_of_isCommand is
  · exact ⟨code, f, .command named, fun s => command_answers s named⟩
  · exact ⟨code, runCommand code 0, .badCode code, fun s => runCommand_answers s code 0⟩

/-- A host access acts on the state in which it finds the controller (R132). -/
theorem exec_hostAct {c : Instr} {f : State → State} (act : HostAct c f) {now : State} (high : now.inReset = false) :
    exec c now = .next (afterHost (f (hostEdge now))) :=
  host_next now high (exec_of_host act (.inl high)) rfl

/-- Settles O32: each command answers OK or with the state as it was. -/
theorem refusedCommandsChangeNothing : Obligations.RefusedCommandsChangeNothing := by
  intro now s high found
  refine ⟨fun code undefined => ?_, fun c t is next refused => ?_⟩
  · rw [exec_badCode now high, ← found, runCommand_undefined undefined, finishCommand_refuse _ .badCode _ nofun]
  · obtain ⟨code, f, act, answers⟩ := hostAct_of_isCommand is
    rw [exec_hostAct act high, ← found] at next
    obtain rfl := Host.Outcome.next.inj next
    rw [afterHost_host, finishCommand_result] at refused
    exact ⟨code, _, _, congrArg afterHost (finishCommand_of_answers (answers s) refused code)⟩

/-! ## Host writes as rows (R164, R165, R167) -/

section
variable (code : BitVec 8) (arg : BitVec 24)

theorem commandOf_decodeCommand (defined : code ∈ commandCodes) :
    ∃ f, commandOf (decodeCommand code arg) = some (code, f) := by
  simp only [commandCodes, List.mem_cons, List.not_mem_nil, or_false] at defined
  rcases defined with rfl | rfl | rfl | rfl | rfl | rfl | rfl | rfl | rfl | rfl | rfl | rfl | rfl | rfl | rfl | rfl |
    rfl | rfl | rfl | rfl | rfl | rfl
  all_goals exact ⟨_, rfl⟩

theorem decodeCommand_undefined (undefined : code ∉ commandCodes) : decodeCommand code arg = .badCode code := by
  simp only [commandCodes, List.mem_cons, List.not_mem_nil, or_false, not_or] at undefined
  simp only [decodeCommand, undefined, if_false]

/-- A write of CMDW is the command that its code and argument name (R165). -/
theorem hostAct_writeCmdw : HostAct (decodeCommand code arg) (writeCmdw code arg) := by
  by_cases defined : code ∈ commandCodes
  · obtain ⟨f, named⟩ := commandOf_decodeCommand code arg defined
    have runs : writeCmdw code arg = fun t => finishCommand code (f t) := by
      funext t
      rw [writeCmdw, runCommand_eq, commandResult, named]
    exact runs ▸ .command named
  · have form : (Instr.badCode code).wellFormed = true := by simpa [Instr.wellFormed] using defined
    have runs : writeCmdw code arg = fun t => finishCommand code (runCommand code 0 t) := by
      funext t
      rw [writeCmdw, runCommand_undefined form, runCommand_undefined form]
    rw [decodeCommand_undefined code arg defined, runs]
    exact .badCode code

end

section
variable (off : BitVec 10) (w : Word)

/-- A write of SCTL is SOFT_RESET, LINK_ENABLE or LINK_DISABLE by its bits 31 and 0 (R159, R167). -/
theorem hostAct_writeSctl : HostAct
    (if w.getLsbD 31 then .softReset
      else if w.getLsbD 0 then .linkEnable (SctlFields.ofWord w) else .linkDisable (SctlFields.ofWord w))
    (writeSctl w) := by
  unfold writeSctl
  split
  · exact .softReset
  · split
    exacts [.enable _, .disable _]

theorem writeOffset_of_reg {r : Reg} (named : regAt off = some r) : writeOffset off w = writeReg r w := by
  funext s
  unfold writeOffset
  rw [named]
theorem writeOffset_of_none (unmapped : regAt off = none) : writeOffset off w = id := by
  funext s
  unfold writeOffset
  rw [unmapped, id]

/-- A host write of any register is a row of its own, or else REGISTER_WRITE. -/
theorem hostAct_decodeWrite : HostAct (decodeWrite off w) (writeOffset off w) := by
  unfold decodeWrite
  cases named : regAt off with
  | none => exact .any off w
  | some r =>
    have effect := writeOffset_of_reg off w named
    cases r with
    | sctl => rw [effect]; exact hostAct_writeSctl w
    | cmdw => rw [effect]; exact hostAct_writeCmdw _ _
    | evst => rw [effect]; exact .clear w .own
    | ident | linkcfg | tickdiv | quota | routecfg | hmark | holdcfg | holdmrg | dozecfg | board =>
      rw [effect]
      exact .register rfl
    | _ => exact .any off w

end

/-- Settles O6: every host write is an access of the kind that its row is, and reads go by the register named. -/
theorem hostWritesAreTheirRows : Obligations.HostWritesAreTheirRows := by
  intro off w now s high found
  refine ⟨?_, fun r named => ?_, fun unmapped => ?_⟩
  · rw [exec_hostAct (hostAct_decodeWrite off w) high, ← found]
  · simp only [State.readOffset, high, named, expireDue_eq, ← found, Bool.false_eq_true, if_false]
  · simp only [State.readOffset, high, unmapped, Bool.false_eq_true, if_false]

end Sys2Proof.CommandPort
end

section
/-! REGISTER_WRITE: a plain register takes the named bits of the word, and the other stored registers, the views and the
blocks keep what they hold (R164). -/

namespace Sys2Proof.CommandPort

open Sys2Proof.Machine Sys2Proof.Safety Sys2Proof.Linkage

/-! ## Named bits -/

/-- Part of a word in its own place is the word under the mask of that place. -/
theorem placed_extract (lo n : Nat) (w : Word) :
    placed lo (w.extractLsb' lo n) = w &&& placed lo (BitVec.allOnes n) := by
  refine BitVec.eq_of_getLsbD_eq fun i lt => ?_
  simp only [placed, BitVec.getLsbD_and, BitVec.getLsbD_shiftLeft, BitVec.getLsbD_setWidth, BitVec.getLsbD_extractLsb',
    BitVec.getLsbD_allOnes, lt, decide_true, Bool.true_and]
  by_cases below : i < lo
  · simp [below]
  · have place : lo + (i - lo) = i := by omega
    have inside : i - lo < 32 := by omega
    simp [below, place, inside, Bool.and_comm]

theorem slotsel_masks (w : Word) : 0#27 ++ w.extractLsb' 0 5 = w &&& 0x0000001F#32 := by
  rw [slotsel_word, field_toNat, placed_extract]
  rfl
theorem ibsel_masks (w : Word) : 0#30 ++ w.extractLsb' 0 2 = w &&& 0x00000003#32 := by
  rw [ibsel_word, field_toNat, placed_extract]
  rfl
theorem tblsel_masks (h : HostRegs) (w : Word) (index : h.tblIndex = w.extractLsb' 0 8)
    (table : h.tblTable = w.extractLsb' 16 2) : 0#14 ++ h.tblTable ++ 0#8 ++ h.tblIndex = w &&& 0x000300FF#32 := by
  rw [tblsel_word, field_toNat, field_toNat, index, table, placed_extract, placed_extract, ← BitVec.and_or_distrib_left]
  rfl

/-! ## Attribute words of the board (R108) -/

/-- The board with one attribute of the entries of word i taken from the bits of `w`; `set` gives it to an entry. -/
def writeAttribute (set : Bool → BoardEntry → BoardEntry) (i : Fin 2) (w : Word) (b : Board) : Board :=
  Vector.ofFn fun n : Fin 64 => if n.val / 32 = i.val then set (w.getLsbD (n.val % 32)) b[n] else b[n]

/-- An entry with this REMOTE_READ. -/
def setRead (v : Bool) (e : BoardEntry) : BoardEntry := { e with remoteRead := v }
/-- An entry with this REMOTE_WRITE. -/
def setWrite (v : Bool) (e : BoardEntry) : BoardEntry := { e with remoteWrite := v }

/-- Boards alike but for the attributes of their entries. -/
def SameEntries (b b' : Board) : Prop := ∀ i : Fin 64,
  b'[i] = { b[i] with remoteRead := b'[i].remoteRead, remoteWrite := b'[i].remoteWrite }

theorem writeReg_boardrd (i : Fin 2) (w : Word) (s : State) :
    writeReg (.boardrd i) w s = { s with board := writeAttribute setRead i w s.board } := rfl
theorem writeReg_boardwr (i : Fin 2) (w : Word) (s : State) :
    writeReg (.boardwr i) w s = { s with board := writeAttribute setWrite i w s.board } := rfl
theorem readReg_boardrd (i : Fin 2) (s : State) : s.readReg (.boardrd i) = boardBits i (·.remoteRead) s.board := rfl
theorem readReg_boardwr (i : Fin 2) (s : State) : s.readReg (.boardwr i) = boardBits i (·.remoteWrite) s.board := rfl

section
variable {i j : Fin 2} {w : Word} {b b' : Board} {f : BoardEntry → Bool} {set : Bool → BoardEntry → BoardEntry}

theorem boardBits_ext {v : Word}
    (bits : ∀ (k : Fin 32) (n : Fin 64), n.val = 32 * i.val + k.val → f b[n] = v.getLsbD k) : boardBits i f b = v := by
  refine BitVec.eq_of_getLsbD_eq fun k lt => ?_
  have place : 32 * i.val + k < 64 := by omega
  rw [← bits ⟨k, lt⟩ ⟨_, place⟩ rfl]
  exact boardBits_getLsbD f b (k := ⟨k, lt⟩) (n := ⟨_, place⟩) rfl

theorem boardBits_congr (same : ∀ n : Fin 64, n.val / 32 = i.val → f b[n] = f b'[n]) :
    boardBits i f b = boardBits i f b' :=
  boardBits_ext fun k n place => by rw [boardBits_getLsbD f b' place]; exact same n (by omega)

theorem writeAttribute_entry (n : Fin 64) : (writeAttribute set i w b)[n] =
    if n.val / 32 = i.val then set (w.getLsbD (n.val % 32)) b[n] else b[n] := by
  simp [writeAttribute]

theorem boardBits_written (sets : ∀ v e, f (set v e) = v) : boardBits i f (writeAttribute set i w b) = w := by
  refine boardBits_ext fun k n place => ?_
  have word : n.val / 32 = i.val := by omega
  have bit : n.val % 32 = k.val := by omega
  rw [writeAttribute_entry, if_pos word, sets, bit]

theorem boardBits_other_word (apart : j ≠ i) : boardBits j f (writeAttribute set i w b) = boardBits j f b :=
  boardBits_congr fun n word => by rw [writeAttribute_entry, if_neg (word ▸ Fin.val_ne_of_ne apart)]

theorem boardBits_other_attribute (keeps : ∀ v e, f (set v e) = f e) :
    boardBits j f (writeAttribute set i w b) = boardBits j f b :=
  boardBits_congr fun n _ => by rw [writeAttribute_entry, apply_ite f, keeps, ite_self]

theorem sameEntries_writeAttribute (keeps : ∀ v e, set v e =
    { e with remoteRead := (set v e).remoteRead, remoteWrite := (set v e).remoteWrite }) :
    SameEntries b (writeAttribute set i w b) := by
  intro n
  rw [writeAttribute_entry]
  split
  · exact keeps _ _
  · rfl

end

/-! ## What a plain write leaves -/

/-- What a write of a plain register may change: EVEN, the host's own registers but CMDR, the attributes of the board. -/
structure PlainFrame (s t : State) : Prop where
  blocks : t = { s with cfg := { s.cfg with even := t.cfg.even }, host := t.host, board := t.board }
  cmdr : t.host.cmdr = s.host.cmdr
  readData : t.host.readData = s.host.readData
  entries : SameEntries s.board t.board

section
variable {r r' : Reg} {w : Word} {s t : State}

theorem plainFrame_of_board {b : Board} (entries : SameEntries s.board b) : PlainFrame s { s with board := b } :=
  ⟨rfl, rfl, rfl, entries⟩

theorem plainFrame_writeReg (plain : isPlain r = true) : PlainFrame s (writeReg r w s) := by
  cases r with
  | even | stageh | stage | slotsel | ibsel | tblsel => exact ⟨rfl, rfl, rfl, fun _ => rfl⟩
  | tbldata i => fin_cases i <;> exact ⟨rfl, rfl, rfl, fun _ => rfl⟩
  | boardrd i =>
    rw [writeReg_boardrd]
    exact plainFrame_of_board (sameEntries_writeAttribute fun _ _ => rfl)
  | boardwr i =>
    rw [writeReg_boardwr]
    exact plainFrame_of_board (sameEntries_writeAttribute fun _ _ => rfl)
  | _ => cases plain

/-- The stored registers that are not plain show the configuration, SCTL and HOLDING, which a plain write leaves. -/
theorem readReg_of_plainFrame (frame : PlainFrame s t) (stored : isStored r = true) (other : isPlain r = false) :
    t.readReg r = s.readReg r := by
  rw [frame.blocks]
  cases r with
  | sctl | ident | linkcfg | tickdiv | cmdw | quota | holdcfg | hmark | holdmrg | routecfg | dozecfg => rfl
  | even | stageh | stage | slotsel | ibsel | tblsel | tbldata | boardrd | boardwr => cases other
  | _ => cases stored

/-! ## What a plain write stores -/

theorem stage_written (i : Fin 8) : (writeReg (.stage i) w s).readReg (.stage i) = w := Vector.getElem_set_self i.isLt
theorem stage_apart {i j : Fin 8} (apart : j ≠ i) : (writeReg (.stage i) w s).readReg (.stage j) = s.readReg (.stage j) :=
  Vector.getElem_set_ne i.isLt j.isLt (Fin.val_ne_of_ne apart.symm)
theorem tbldata_apart {i j : Fin 2} (apart : j ≠ i) :
    (writeReg (.tbldata i) w s).readReg (.tbldata j) = s.readReg (.tbldata j) := by
  fin_cases i <;> fin_cases j <;> first | exact absurd rfl apart | rfl

theorem readReg_writeReg_same (plain : isPlain r = true) : (writeReg r w s).readReg r = w &&& storedBits r := by
  have whole : w = w &&& 0xFFFFFFFF#32 := BitVec.and_allOnes.symm
  cases r with
  | even | stageh => rfl
  | slotsel => exact slotsel_masks w
  | ibsel => exact ibsel_masks w
  | tblsel => exact tblsel_masks _ w rfl rfl
  | stage i => exact (stage_written i).trans whole
  | tbldata i => fin_cases i <;> exact whole
  | boardrd i =>
    rw [writeReg_boardrd, readReg_boardrd]
    exact (boardBits_written fun _ _ => rfl).trans whole
  | boardwr i =>
    rw [writeReg_boardwr, readReg_boardwr]
    exact (boardBits_written fun _ _ => rfl).trans whole
  | _ => cases plain

/-- Of the plain registers only BOARDRD and BOARDWR show the board. -/
theorem readReg_of_board {b : Board} (plain : isPlain r = true) (rd : ∀ i, r ≠ .boardrd i) (wr : ∀ i, r ≠ .boardwr i) :
    ({ s with board := b } : State).readReg r = s.readReg r := by
  cases r with
  | even | stageh | stage | slotsel | ibsel | tblsel | tbldata => rfl
  | boardrd i => exact absurd rfl (rd i)
  | boardwr i => exact absurd rfl (wr i)
  | _ => cases plain

/-- Of two plain registers, a write of one leaves the other. -/
theorem readReg_writeReg_apart (plain : isPlain r = true) (plain' : isPlain r' = true) (apart : r' ≠ r) :
    (writeReg r w s).readReg r' = s.readReg r' := by
  cases r with
  | even | stageh | slotsel | ibsel | tblsel =>
    cases r' with
    | even | stageh | stage | slotsel | ibsel | tblsel | tbldata | boardrd | boardwr =>
      first | exact absurd rfl apart | rfl
    | _ => cases plain'
  | stage i =>
    cases r' with
    | stage j => exact stage_apart fun same => apart (congrArg Reg.stage same)
    | even | stageh | slotsel | ibsel | tblsel | tbldata | boardrd | boardwr => rfl
    | _ => cases plain'
  | tbldata i =>
    cases r' with
    | tbldata j => exact tbldata_apart fun same => apart (congrArg Reg.tbldata same)
    | even | stageh | stage | slotsel | ibsel | tblsel | boardrd | boardwr => fin_cases i <;> rfl
    | _ => cases plain'
  | boardrd i =>
    rw [writeReg_boardrd]
    cases r' with
    | boardrd j => exact boardBits_other_word fun same => apart (congrArg Reg.boardrd same)
    | boardwr j => exact boardBits_other_attribute fun _ _ => rfl
    | even | stageh | stage | slotsel | ibsel | tblsel | tbldata => exact readReg_of_board rfl nofun nofun
    | _ => cases plain'
  | boardwr i =>
    rw [writeReg_boardwr]
    cases r' with
    | boardwr j => exact boardBits_other_word fun same => apart (congrArg Reg.boardwr same)
    | boardrd j => exact boardBits_other_attribute fun _ _ => rfl
    | even | stageh | stage | slotsel | ibsel | tblsel | tbldata => exact readReg_of_board rfl nofun nofun
    | _ => cases plain'
  | _ => cases plain

theorem readReg_writeReg_other (plain : isPlain r = true) (other : r' ≠ r) (stored : isStored r' = true) :
    (writeReg r w s).readReg r' = s.readReg r' := by
  cases plain' : isPlain r' with
  | true => exact readReg_writeReg_apart plain plain' other
  | false => exact readReg_of_plainFrame (plainFrame_writeReg plain) stored plain'

/-- The registers that no row writes are the read-only ones. -/
theorem writeReg_readOnly (plain : isPlain r = false) (noRow : r.hasWriteRow = false) : writeReg r w s = s := by
  cases r with
  | sstat | cmdr | linkstat | slotview | cqview | ibview | ibcount | dozestat | sessview | claimview | cnt | holdview
  | boardstg | boardmod => rfl
  | even | stageh | stage | slotsel | ibsel | tblsel | tbldata | boardrd | boardwr => cases plain
  | _ => cases noRow

theorem isStored_of_isPlain (plain : isPlain r = true) : isStored r = true := by
  cases r with
  | even | stageh | stage | slotsel | ibsel | tblsel | tbldata | boardrd | boardwr => rfl
  | _ => cases plain

/-! ## The end of the access -/

/-- A stored register shows the configuration, the host's registers, the attributes of the board, SCTL with LINK_EN, and
which inboxes are HOLDING. -/
theorem readReg_of_blocks (stored : isStored r = true) (cfg : t.cfg = s.cfg) (sctl : t.sctl = s.sctl)
    (host : t.host = s.host) (on : t.linkEn = s.linkEn) (board : t.board = s.board) (hold : t.hold = s.hold) :
    t.readReg r = s.readReg r := by
  cases r with
  | sctl => simp only [State.readReg, State.sctlWord, sctl, on]
  | hmark n => simp only [State.readReg, cfg, hold]
  | boardrd i | boardwr i => simp only [State.readReg, board]
  | cmdw => rfl
  | ident | linkcfg | tickdiv | even | quota | holdcfg | holdmrg | routecfg | dozecfg => simp only [State.readReg, cfg]
  | stageh | stage | slotsel | ibsel | tblsel | tbldata => simp only [State.readReg, host]
  | _ => cases stored

theorem readReg_afterHost (stored : isStored r = true) : (afterHost s).readReg r = s.readReg r := by
  have on : (afterHost s).linkEn = s.linkEn := by simp [State.linkEn, afterHost]
  refine readReg_of_blocks stored ?_ ?_ ?_ on ?_ ?_
  all_goals simp [afterHost]

end

/-- Settles O10: the write stores the named bits and leaves the rest; no stored register shows the end of the access. -/
theorem registerWriteReadsBack : Obligations.RegisterWriteReadsBack := by
  intro off w now s high found
  have written : exec (.registerWrite off w) now = .next (afterHost (writeOffset off w s)) := by
    rw [exec_registerWrite now high, ← found]
  refine ⟨fun r named plain => ?_, fun ignored => ?_⟩
  · rw [writeOffset_of_reg off w named] at written
    obtain ⟨blocks, cmdr, readData, entries⟩ := plainFrame_writeReg (w := w) (s := s) plain
    refine ⟨_, written, ?_, fun r' other stored => ?_, ?_, ?_, ?_, ?_⟩
    · rw [readReg_afterHost (isStored_of_isPlain plain), readReg_writeReg_same plain]
    · rw [readReg_afterHost stored, readReg_writeReg_other plain other stored]
    · rw [Calling.afterHost_cfg, afterHost_host, NoticeBoard.afterHost_board]
      exact congrArg afterHost blocks
    · rw [afterHost_host, cmdr]
    · rw [afterHost_host, readData]
    · rw [NoticeBoard.afterHost_board]
      exact entries
  · obtain ⟨r, named, plain, noRow⟩ | unmapped := ignored
    · rw [written, writeOffset_of_reg off w named, writeReg_readOnly plain noRow]
    · rw [written, writeOffset_of_none off w unmapped, id]

end Sys2Proof.CommandPort
end

section
/-! The state after reset meets every invariant that the steps keep (R158, section 11.2). -/

namespace Sys2Proof.Startup

open Sys2Proof.Machine Sys2Proof.Safety

/-- INT# is high and nothing asks for it: IRQ_EN is 0 after reset (R155). -/
theorem intFollows_reset : IntFollows State.reset := by
  have irqOff : State.reset.sctl.irqEn = false := rfl
  have quiet : State.reset.interrupt = false := by rw [State.interrupt, irqOff, Bool.false_and]
  exact quiet.symm

theorem unnamedBitsClear_reset : UnnamedBitsClear State.reset where
  sticky := BitVec.zero_and
  even := BitVec.zero_and
  stageh := BitVec.zero_and

/-- Settles O52: the configuration has its values after reset, and every unit that holds calls, sessions, parcels, holds
or the doze state is empty. -/
theorem resetStateIsLegal : Obligations.ResetStateIsLegal := by
  have calls : State.reset.calls = {} := rfl
  have sess : State.reset.sess = {} := rfl
  have intake : State.reset.intake = {} := rfl
  have hold : State.reset.hold = {} := rfl
  have doze : State.reset.doze = {} := rfl
  have idle : Calling.callPhase State.reset = none := rfl
  refine ⟨intFollows_reset, configLegal_reset, unnamedBitsClear_reset, inboxesFit_empty intake, ?_, holdSets_clear hold,
    ?_, dozeCoherent_clear doze, queuesCoherent_clear calls idle, sessionsCoherent_clear calls sess,
    tagsCoherent_clear calls, attemptsBounded_clear calls⟩
  · exact repeatsLegal_empty (by rw [intake])
  · exact claimCoherent_free (by rw [sess]) (by rw [sess])

end Sys2Proof.Startup
end
